-- ==== Sys2Proof/Word.lean ====
section
/-! DEFINITION. The two word types of the CQ16: a byte on either port, and the two-byte event set (09 R172). -/

namespace Sys2Proof

/-- A byte of a request or a reply, and every field that 09 R172 sends as one full byte (scale, trim, step, revision, token). -/
abbrev Byte := BitVec 8

/-- An event set (09 section 9.5): bit i is the flag numbered i, bit 15 always 0. -/
abbrev EventSet := BitVec 16

end Sys2Proof
end

