-- ==== Sys2Proof/Syntax.lean ====
section
/-! DEFINITION. The commands of the CQ16: one constructor per row of spec/opcode_table.json, with its operands. -/

namespace Sys2Proof

/-- Where a request comes from: a Building Link frame with a good CRC-8 and this address byte (08 R163), or a write on
the Service Port that ended with its stop condition and a good CRC-8 (08 R167). -/
inductive Via where
  | link (address : Byte)
  | servicePort
  deriving DecidableEq, Repr

/-- The level of an input line (06 section 6.1). -/
inductive LineLevel where
  | low
  | high
  deriving DecidableEq, Repr

/-- The three fault conditions that an output stage reports (05 R103). -/
inductive FaultCondition where
  | overcurrent
  | short
  | openLoad
  deriving DecidableEq, Repr

/-- What the controller takes of a read: how many bytes, and whether the read ends with them, by a byte that it does not
acknowledge or a stop condition (08 R167). -/
structure ReadSpan where
  count : Nat
  ends : Bool
  deriving DecidableEq, Repr

/-- The commands. A request carries the port it came on and its payload bytes (09 Table 9.4a); its code is the constructor. -/
inductive Instr where
  | readStatus (via : Via) (payload : List Byte)
  | readEvents (via : Via) (payload : List Byte)
  | readConfig (via : Via) (payload : List Byte)
  | readCue (via : Via) (payload : List Byte)
  | listCues (via : Via) (payload : List Byte)
  | findCue (via : Via) (payload : List Byte)
  | listPlays (via : Via) (payload : List Byte)
  | queryPlay (via : Via) (payload : List Byte)
  | queryChannel (via : Via) (payload : List Byte)
  | readPattern (via : Via) (payload : List Byte)
  | queryInputs (via : Via) (payload : List Byte)
  | writeCue (via : Via) (payload : List Byte)
  | setTrim (via : Via) (payload : List Byte)
  | retireCue (via : Via) (payload : List Byte)
  | trigger (via : Via) (payload : List Byte)
  | release (via : Via) (payload : List Byte)
  | releaseAll (via : Via) (payload : List Byte)
  | freeze (via : Via) (payload : List Byte)
  | thaw (via : Via) (payload : List Byte)
  | writePattern (via : Via) (payload : List Byte)
  | clearFault (via : Via) (payload : List Byte)
  | setConfig (via : Via) (payload : List Byte)
  | save (via : Via) (payload : List Byte)
  | snapshotResume (via : Via) (payload : List Byte)
  | clearEvents (via : Via) (payload : List Byte)
  | keepalive (via : Via) (payload : List Byte)
  | fallbackExit (via : Via) (payload : List Byte)
  | setServiceMode (via : Via) (payload : List Byte)
  | reset (via : Via) (payload : List Byte)
  /-- A request whose code is not in Table 9.3a. -/
  | badRequest (via : Via) (code : Byte)
  | linkGapExpiry
  | linkByteError
  | linkFrameCheckFailed
  /-- A good frame whose address byte the unit does not answer to, another unit's reply (80h and above) among them. -/
  | frameForAnotherUnit (address : Byte)
  | replyStart
  | replySent
  | replyDropped
  /-- A write address byte on the Service Port, with its 7-bit target address. -/
  | spWriteStart (target : BitVec 7)
  | spBadFrame
  | spWriteAborted
  /-- A read on the Service Port: its 7-bit target address, or none for further bytes of the read in progress (log 18), and what
  the controller takes. -/
  | spRead (target : Option (BitVec 7)) (taken : ReadSpan)
  | delayExpiry (play : Nat)
  | rampStepExpiry (play : Nat)
  | holdExpiry (play : Nat)
  | fadeStepExpiry (play : Nat)
  | watchdogExpiry
  | faultConditionChange (channel : Nat) (condition : FaultCondition) (present : Bool)
  | trip (channel : Nat) (condition : FaultCondition)
  | openLoadDetection (channel : Nat)
  | retryExpiry (channel : Nat)
  | goodRunExpiry (channel : Nat)
  /-- One sample of the die temperature in °C. -/
  | temperatureSample (degrees : Int)
  | rawLevelChange (line : Nat) (level : LineLevel)
  | debounceExpiry (line : Nat)
  | windowExpiry (pattern : Nat)
  | saveCompletion
  | saveFailure
  | powerReset
  | rstnLow
  | rstnHigh
  | imageLoadEnd
  | entryToRunning
  | powerLoss
  | linkSyncByte
  deriving DecidableEq, Repr

end Sys2Proof
end

