-- ==== Sys2Proof/Decode.lean ====
section
/-! DEFINITION. The decoder over the bits of spec/opcode_table.json. The table gives NO row any bits (its reader's counts
in 98_reader.md: no row with fixed bits, no row with fields), so no word spells a command. The request codes and payload
layouts of chapter 09 are decoded by Machine/Operands.lean. -/

namespace Sys2Proof

/-- No row of the table gives bits: every word is refused. -/
def decodeTableWord (_nbits _w : Nat) : Option Instr := none

end Sys2Proof
end

