-- ==== Sys2Proof/Machine/Banks.lean ====
section
/-! DEFINITION. Banks of like things numbered from 1, as the manual numbers its slots, plays, channels, lines and patterns,
and the numbers of a reply laid out as bytes. -/

namespace Sys2Proof.Machine

variable {α β : Type} {k : Nat}

/-- The thing numbered `n`, if there is one. -/
def at1 (v : Vector α k) : Nat → Option α
  | 0 => none
  | i + 1 => v[i]?

/-- The bank with `x` as the thing numbered `n`; unchanged when there is no such number. -/
def put1 (v : Vector α k) (n : Nat) (x : α) : Vector α k :=
  match n with
  | 0 => v
  | i + 1 => v.setIfInBounds i x

/-- Every thing of the bank changed by `f`. -/
def mapBank (f : α → β) (v : Vector α k) : Vector β k := ⟨⟨v.toList.map f⟩, by simp⟩

/-- Every thing of the bank changed by `f`, which also gets its number. -/
def mapBank1 (f : Nat → α → β) (v : Vector α k) : Vector β k := ⟨⟨v.toList.mapIdx fun i x => f (i + 1) x⟩, by simp⟩

/-- One byte of a reply: the number itself (09 R172). -/
def byte (n : Nat) : Byte := BitVec.ofNat 8 n

/-- A two-byte number, most significant byte first (09 R172). -/
def bytes2 (n : Nat) : List Byte := [byte (n / 256), byte n]

/-- A three-byte number, most significant byte first (09 R172). -/
def bytes3 (n : Nat) : List Byte := [byte (n / 65536), byte (n / 256), byte n]

/-- A flag as a byte (09 R172). -/
def byteOfBool (b : Bool) : Byte := if b then 1 else 0

/-- One round of the CRC-8: shift left once, and combine with 07h if a 1 left the top bit (08 R163). -/
def crcShift (x : Byte) : Byte := if x.msb then (x <<< 1) ^^^ 0x07 else x <<< 1

/-- One byte taken into the running value: exclusive-or, then eight shifts (08 R163). -/
def crcByte (acc b : Byte) : Byte :=
  crcShift (crcShift (crcShift (crcShift (crcShift (crcShift (crcShift (crcShift (acc ^^^ b))))))))

/-- The CRC-8 of a run of bytes, starting at 00h, with no reflection and no final XOR (08 R163). -/
def crc8 (bs : List Byte) : Byte := bs.foldl crcByte 0

end Sys2Proof.Machine
end

