-- ==== Sys2Proof/Config.lean ====
section
/-! DEFINITION. What the part fixes once for all: its counts and largest sizes, and the one free value, the order
in which timers that have run out together are taken. -/

namespace Sys2Proof.Config

/-- Cue slots (01, chapter opening). -/
def slotCount : Nat := 64
/-- Play records (02 R27). -/
def playCount : Nat := 24
/-- The fallback play's record (02 R28). -/
def fallbackId : Nat := 24
/-- The fallback play's priority (02 R28). -/
def fallbackPriority : Nat := 16
/-- Plays with a source other than FALLBACK (02 R28, R34). -/
def ordinaryPlays : Nat := 23
/-- Output channels (04 R77). -/
def channelCount : Nat := 16
/-- Claims in a full list (04 R78). -/
def claimLimit : Nat := 6
/-- Input lines (06 section 6.1). -/
def lineCount : Nat := 8
/-- Patterns (06 section 6.2). -/
def patternCount : Nat := 16
/-- Largest payload of a request or a reply (08 R162, R167). -/
def payloadLimit : Nat := 60
/-- Entries in one LIST_CUES reply (01 R14). -/
def listCuesLimit : Nat := 19
/-- Entries in one LIST_PLAYS reply (02 R63). -/
def listPlaysLimit : Nat := 9
/-- Channel entries in one QUERY_PLAY reply (02 R64). -/
def queryPlayLimit : Nat := 6
/-- Cues in a resume set (10 R181). -/
def resumeLimit : Nat := 8
/-- Addresses in a group list (08 R161). -/
def groupLimit : Nat := 4
/-- The full level, 4095 of 4096ths (03 R65, R74). -/
def fullLevel : Nat := 4095

/-- How much time an idle step passes, in µs: every deglitch time is a whole number of it (05 R105; log 2). -/
def tickMicros : Nat := 50
/-- A millisecond, in µs (00, Numbers and units). -/
def msMicros : Nat := 1000

/-- FREE VALUE (log 3). The spec lets either of two expiries that fall together be taken first (02 R37, R36, 04 R90);
this value, applied to the counter `State.ties`, picks one of those that are due. It has no body: no proof can know it. -/
opaque tieBreak : Nat → Nat

end Sys2Proof.Config
end

