-- ==== Sys2Proof/Machine/Records.lean ====
section
/-! DEFINITION. The records that the ten blocks hold, each with the fields the manual gives it. -/

namespace Sys2Proof.Machine

/-! ## The Cue Table (01) -/

/-- 03 R65. -/
inductive Curve where
  | linear
  | square
  | cube
  | switch
  deriving DecidableEq, Repr

/-- An end action with its parameter (01 R7). -/
inductive EndAction where
  | sustain
  | release
  | repeating (count : Nat)
  | chain (target : Nat)
  deriving DecidableEq, Repr

/-- What a trigger does to an existing play (01 section 1.2). -/
inductive Policy where
  | restart
  | queue
  | ignore
  deriving DecidableEq, Repr

/-- A length as a count and a time-unit code 0..7 (00, the time-unit code). -/
structure Span where
  count : Byte
  unit : Fin 8
  deriving DecidableEq, Repr

/-- An entry of a channel list: a channel 1..16 and its scale (01 R5). -/
structure ChannelEntry where
  channel : Nat
  scale : Byte
  deriving DecidableEq, Repr

/-- The cue record (01 section 1.2). -/
structure CueRecord where
  label : List Byte
  priority : Nat
  channels : List ChannelEntry
  curve : Curve
  startStep : Byte
  stopStep : Byte
  stepPeriod : Byte
  delay : Span
  hold : Span
  endAction : EndAction
  policy : Policy
  releaseFade : Byte
  trim : Byte
  deriving DecidableEq, Repr

/-- 01 section 1.1. -/
inductive SlotStatus where
  | free
  | held
  | retiring
  deriving DecidableEq, Repr

/-- A cue slot: status, revision and record (01 section 1.1). -/
structure Slot where
  status : SlotStatus
  revision : Byte
  record : CueRecord
  deriving DecidableEq, Repr

/-! ## The Play Engine (02) -/

/-- Where the last admission or restart of a play came from (02 section 2.1). -/
inductive Source where
  | buildingLink
  | servicePort
  | input (pattern : Nat)
  | chain
  | fallback
  | start
  deriving DecidableEq, Repr

/-- The level a channel of the cue stood at when FADEOUT was entered (03 R69). -/
structure OriginLevel where
  channel : Nat
  level : Nat
  deriving DecidableEq, Repr

/-- The phase. The two fade fields live in FADEOUT alone, as 02 R27 says: present in FADEOUT, absent elsewhere. -/
inductive Phase where
  | delay
  | ramp
  | hold
  | sustain
  | fadeout (origins : List OriginLevel) (done : Nat)
  deriving DecidableEq, Repr

/-- Ramps still to come under REPEAT (02 section 2.1). -/
inductive Repeats where
  | times (n : Nat)
  | forever
  deriving DecidableEq, Repr

/-- A play record (02 section 2.1). Its id is its place 1..24 in `State.plays`. -/
structure Play where
  cue : Nat
  source : Source
  priority : Nat
  phase : Phase
  step : Byte
  /-- Phase timer: ms left until the next expiry, 0 in SUSTAIN. -/
  timer : Nat
  repeats : Repeats
  pendingRestart : Bool
  deriving DecidableEq, Repr

/-! ## The Channel Supervisor and the Thermal Monitor (05) -/

inductive SupervisorState where
  | normal
  | tripped
  | locked
  deriving DecidableEq, Repr

/-- One fault condition of one channel: what the stage reports, and its persistence in µs (05 R104). -/
structure Sense where
  reported : Bool
  persistence : Option Nat
  deriving DecidableEq, Repr

/-- A channel record (05 section 5.1). A timer is `none` when it is stopped; the retry timer holds the µs left, the good-run timer
the µs run (log 2). -/
structure Channel where
  state : SupervisorState
  retryCount : Nat
  retryTimer : Option Nat
  goodRun : Option Nat
  openLoadFlag : Bool
  level : Nat
  overcurrent : Sense
  short : Sense
  openLoad : Sense
  deriving DecidableEq, Repr

inductive ThermalState where
  | normal
  | warn
  | shutdown
  deriving DecidableEq, Repr

/-- The Thermal Monitor (05 section 5.5): accumulator as sum and count, last reading, state. -/
structure Thermal where
  sum : Int
  count : Nat
  lastReading : Option Int
  state : ThermalState
  deriving DecidableEq, Repr

/-! ## The Input Matcher (06) -/

/-- The live state of a line (06 section 6.1). The debounce timer holds the µs left (log 2). -/
structure Line where
  raw : LineLevel
  accepted : Option LineLevel
  timer : Option Nat
  deriving DecidableEq, Repr

inductive EventKind where
  | press
  | release
  deriving DecidableEq, Repr

/-- An input event, and an element of a pattern: a line and a kind (06 R129). -/
structure InputEvent where
  line : Nat
  kind : EventKind
  deriving DecidableEq, Repr

inductive PatternAction where
  | trigger
  | release
  | toggle
  deriving DecidableEq, Repr

/-- The pattern record (06 section 6.2). The window is in units of 50 ms. -/
structure PatternRecord where
  enabled : Bool
  elements : List InputEvent
  window : Nat
  action : PatternAction
  cue : Nat
  deriving DecidableEq, Repr

/-- A pattern slot: its record and its match state (06 section 6.2). The window timer holds the µs left (log 2). -/
structure Pattern where
  record : PatternRecord
  progress : Nat
  window : Option Nat
  deriving DecidableEq, Repr

/-! ## Configuration (09 Table 9.8) -/

inductive Baud where
  | b19200
  | b38400
  | b57600
  | b115200
  deriving DecidableEq, Repr

inductive WatchdogUnit where
  | second
  | minute
  deriving DecidableEq, Repr

inductive StartPolicy where
  | dark
  | startCue
  | resumeSet
  deriving DecidableEq, Repr

/-- The service modes that can be stored or asked for (08 R169). -/
inductive ServiceMode where
  | openMode
  | readOnly
  | silent
  | off
  deriving DecidableEq, Repr

/-- The fault deglitch time, 50, 100, 200 or 400 µs (05 R105). -/
inductive Deglitch where
  | us50
  | us100
  | us200
  | us400
  deriving DecidableEq, Repr

/-- The averaging N: 4, 8, 16 or 32 samples to a reading (05 R120). -/
inductive Averaging where
  | n4
  | n8
  | n16
  | n32
  deriving DecidableEq, Repr

/-- The debounce of a line: 0, 5, 20 or 50 ms (06 R125). -/
inductive Debounce where
  | ms0
  | ms5
  | ms20
  | ms50
  deriving DecidableEq, Repr

/-- The three items of one line (06 R125). -/
structure LineItems where
  enabled : Bool
  activeLevel : LineLevel
  debounce : Debounce
  deriving DecidableEq, Repr

/-- Every configuration item (09 Table 9.8). -/
structure Items where
  unitAddress : Nat
  groups : List Nat
  baud : Baud
  watchdogPeriod : Byte
  watchdogUnit : WatchdogUnit
  fallbackCue : Nat
  startPolicy : StartPolicy
  startCue : Nat
  settleDelay : Nat
  serviceMode : ServiceMode
  maxRetries : Nat
  retryDelay : Byte
  goodRunTime : Byte
  deglitch : Deglitch
  averaging : Averaging
  warn : Nat
  shutdown : Nat
  hysteresis : Nat
  derate : Nat
  lines : Vector LineItems 8
  attentionMask : EventSet
  deriving DecidableEq, Repr

/-! ## The Port Controller (08) -/

/-- The reply status codes of 09 Table 9.3b that a request can be answered with. -/
inductive Status where
  | ok
  | accepted
  | ignored
  | notReady
  | badRequest
  | badFrame
  | badArg
  | refused
  | wrongPort
  | busy
  | noCue
  | noPlay
  | cueInUse
  | cueRetiring
  | dupLabel
  | stale
  | cueProtected
  | playFull
  | claimFull
  | badToken
  | notInFallback
  deriving DecidableEq, Repr

/-- A reply: its status and its payload bytes (09 section 9.1). -/
structure Reply where
  status : Status
  payload : List Byte
  deriving DecidableEq, Repr

/-- 08 R162. -/
inductive Receiver where
  | hunting
  | receiving
  deriving DecidableEq, Repr

/-- What waits for the unicast reply (08 R165): a unit address made by the same frame, and a reset. -/
structure Deferred where
  address : Option Nat
  reset : Bool
  deriving DecidableEq, Repr

/-- The unicast reply on the Building Link (08 R165). -/
inductive LinkReply where
  | idle
  | waiting (reply : Reply) (deferred : Deferred)
  | sending (frame : List Byte) (deferred : Deferred)
  deriving DecidableEq, Repr

/-- The Service Port's pending reply (08 R168). -/
inductive SpReply where
  | none
  | preparing
  | ready (reply : Reply)
  deriving DecidableEq, Repr

/-- The write on the Service Port (08 R167, R170): none is under way, or one whose address the port acknowledged, or one whose
address it did not. -/
inductive SpWrite where
  | none
  | acknowledged
  | refused
  deriving DecidableEq, Repr

/-- The live service mode (08 R169). OFF_PENDING keeps the mode it followed. -/
inductive LiveMode where
  | plain (mode : ServiceMode)
  | offPending (followed : ServiceMode)
  deriving DecidableEq, Repr

/-! ## The Image Store and start-up (10) -/

inductive Port where
  | buildingLink
  | servicePort
  deriving DecidableEq, Repr

/-- The image (10 R176). The check word is held beside it, as good or not. -/
structure Image where
  slots : Vector Slot 64
  patterns : Vector PatternRecord 16
  config : Items
  resume : List Nat
  deriving DecidableEq, Repr

/-- The store state. While SAVING it carries the owner and the contents being written, those of the working tables at the
moment of acceptance (10 R177, R179). -/
inductive StoreState where
  | idle
  | saving (owner : Port) (contents : Image)
  deriving DecidableEq, Repr

inductive ResetCause where
  | power
  | pin
  | request
  deriving DecidableEq, Repr

/-- How far the start-up has come (10 R182, R183, R184). The run state is RUNNING in `running` and STARTING in every other. -/
inductive Stage where
  /-- No supply, or RSTN held low. -/
  | held
  /-- From the entry to STARTING to the end of the image load. -/
  | loading
  /-- The settle delay, with the µs left (log 2). -/
  | settling (left : Nat)
  | running
  deriving DecidableEq, Repr

/-! ## The Event Unit (11) -/

/-- The fifteen event flags, in the order of their bits (09 section 9.5). -/
inductive EventFlag where
  | patternMatch
  | triggerRefused
  | eviction
  | chainFailed
  | channelTrip
  | channelLocked
  | openLoad
  | thermalWarn
  | thermalShutdown
  | fallbackEntered
  | saveDone
  | saveFailed
  | storeInvalid
  | linkError
  | restarted
  deriving DecidableEq, Repr

/-- The last-refusal record (11 R187). -/
structure RefusalRecord where
  cue : Nat
  source : Source
  reason : Status
  channel : Nat
  deriving DecidableEq, Repr

/-- The last-eviction record (11 R187). -/
structure EvictionRecord where
  evicted : Nat
  evicting : Nat
  deriving DecidableEq, Repr

end Sys2Proof.Machine
end

