-- ==== Sys2Proof/Machine/Factory.lean ====
section
/-! DEFINITION. The contents of the factory image (10 R176) and the reset values of the live records. -/

namespace Sys2Proof.Machine

/-- The empty record of a FREE slot (01 R2). -/
def CueRecord.empty : CueRecord where
  label := []
  priority := 0
  channels := []
  curve := .linear
  startStep := 0
  stopStep := 0
  stepPeriod := 1
  delay := ⟨0, 0⟩
  hold := ⟨0, 0⟩
  endAction := .release
  policy := .restart
  releaseFade := 0
  trim := 255

/-- A FREE slot keeps its revision and holds the empty record (01 R2). -/
def Slot.freed (x : Slot) : Slot := { status := .free, revision := x.revision, record := CueRecord.empty }

/-- A slot of the factory image (10 R176). -/
def Slot.factory : Slot := { status := .free, revision := 0, record := CueRecord.empty }

/-- The factory pattern record (06 R130). -/
def PatternRecord.factory : PatternRecord where
  enabled := false
  elements := [⟨1, .press⟩]
  window := 20
  action := .trigger
  cue := 1

def LineItems.factory : LineItems := { enabled := false, activeLevel := .low, debounce := .ms20 }

/-- The factory attention mask (11 R186). -/
def factoryMask : EventSet := 0x1B20

/-- Every configuration item at its factory value (09 Table 9.8 and the owning rules). -/
def Items.factory : Items where
  unitAddress := 1
  groups := []
  baud := .b19200
  watchdogPeriod := 0
  watchdogUnit := .second
  fallbackCue := 0
  startPolicy := .dark
  startCue := 0
  settleDelay := 5
  serviceMode := .openMode
  maxRetries := 3
  retryDelay := 50
  goodRunTime := 30
  deglitch := .us100
  averaging := .n16
  warn := 115
  shutdown := 135
  hysteresis := 10
  derate := 160
  lines := Vector.replicate 8 LineItems.factory
  attentionMask := factoryMask

/-- The factory image (10 R176). -/
def Image.factory : Image where
  slots := Vector.replicate 64 Slot.factory
  patterns := Vector.replicate 16 PatternRecord.factory
  config := Items.factory
  resume := []

/-- A condition that the stage does not report, with persistence none. -/
def Sense.quiet : Sense := { reported := false, persistence := none }

/-- A channel record after a reset (05 R101), its stage reporting nothing. -/
def Channel.initial : Channel where
  state := .normal
  retryCount := 0
  retryTimer := none
  goodRun := none
  openLoadFlag := false
  level := 0
  overcurrent := Sense.quiet
  short := Sense.quiet
  openLoad := Sense.quiet

/-- The Thermal Monitor after a reset (05 R119). -/
def Thermal.initial : Thermal := { sum := 0, count := 0, lastReading := none, state := .normal }

/-- A line after a reset (06 R126). -/
def Line.initial (raw : LineLevel) : Line := { raw := raw, accepted := none, timer := none }

/-- A pattern slot with no match in hand (06 R131). -/
def Pattern.idle (r : PatternRecord) : Pattern := { record := r, progress := 0, window := none }

end Sys2Proof.Machine
end

