-- ==== Sys2Proof/Machine/State.lean ====
section
/-! DEFINITION. The state of the CQ16 as plain data, the reasons a step can stop, and the state right after reset. -/

namespace Sys2Proof.Machine

/-- Everything the manual gives the part, and three fields of the model's own (`pending`, `ties`, `micros`). -/
structure State where
  /-- The commands that wait, first in, first out. -/
  pending : List Instr
  /-- MODEL'S OWN (log 3): how often the free value `Config.tieBreak` has been asked. -/
  ties : Nat
  /-- MODEL'S OWN (log 2): how many µs of the present ms of the Play Engine's timebase have passed (02 R37). -/
  micros : Nat
  /-- The supply is inside its operating range (10 R182, R180). -/
  powered : Bool
  /-- RSTN is driven low (10 R182). -/
  rstnLow : Bool
  /-- The Service Port's address pins (08 R167). -/
  sa1 : Bool
  sa0 : Bool
  /-- How far the start-up has come (10 R183, R184). -/
  stage : Stage
  resetCause : ResetCause
  /-- Cue slots 1..64 at places 0..63 (01). -/
  slots : Vector Slot 64
  /-- Play records 1..24 at places 0..23 (02 R27). -/
  plays : Vector (Option Play) 24
  frozen : Bool
  /-- The claim lists of CH1..CH16, each a list of play ids from the head (04 R77). -/
  claims : Vector (List Nat) 16
  /-- The channel records of CH1..CH16 (05 section 5.1). -/
  channels : Vector Channel 16
  thermal : Thermal
  /-- IN1..IN8 (06 section 6.1). -/
  lines : Vector Line 8
  /-- Patterns 1..16 (06 section 6.2). -/
  patterns : Vector Pattern 16
  /-- The watchdog timer: stopped, or the µs left (07 R145; log 2). -/
  watchdog : Option Nat
  fallbackOn : Bool
  entryCount : Byte
  receiver : Receiver
  linkReply : LinkReply
  /-- The unit address in force (08 R161). -/
  linkAddress : Nat
  /-- The rate the line keeps until the next start-up (08 R160). -/
  linkBaud : Baud
  /-- The 7-bit target address read from the pins at a reset (08 R167). -/
  spAddress : BitVec 7
  spReply : SpReply
  /-- The write under way, from its address byte to its end (08 R167, R170). -/
  spWrite : SpWrite
  /-- The read in progress: what it has still to supply before the FFh bytes; none when no read is in progress (08 R168, R170). -/
  spReading : Option (List Byte)
  serviceMode : LiveMode
  /-- Whether the Service Port acknowledged the last address byte (08 R167, R169; log 18). -/
  spAck : Bool
  /-- The bytes the Service Port supplied at the last read (08 R168; log 18). -/
  spOut : List Byte
  config : Items
  store : StoreState
  imageValid : Bool
  resumeSet : List Nat
  /-- The contents of the nonvolatile store, and whether its check word is good (10 R176). -/
  image : Image
  checkGood : Bool
  flags : EventSet
  lastRefusal : Option RefusalRecord
  lastEviction : Option EvictionRecord
  deriving DecidableEq, Repr

/-- Nothing in the manual stops the part, so no fault is raised by anything (log 26): safe. -/
inductive Fault where
  deriving DecidableEq, Repr

/-- Why a step has no meaning. -/
inductive Refusal where
  /-- Raised by an arm of `exec` that has no meaning yet, with the row's mnemonic; no arm raises it. Safe: nothing can
  be proved of a step that is refused. -/
  | notModelled (mnemonic : String)
  deriving DecidableEq, Repr

/-- The part right after the reset at power-on, RSTN high, with the factory contents in its store under a good check word
(10 R176, R182, R183; the values that no rule gives are in logs 12 and 15). -/
def State.reset : State where
  pending := []
  ties := 0
  micros := 0
  powered := true
  rstnLow := false
  sa1 := false
  sa0 := false
  stage := .loading
  resetCause := .power
  slots := Image.factory.slots
  plays := Vector.replicate 24 none
  frozen := false
  claims := Vector.replicate 16 []
  channels := Vector.replicate 16 Channel.initial
  thermal := Thermal.initial
  lines := Vector.replicate 8 (Line.initial .high)
  patterns := Vector.replicate 16 (Pattern.idle PatternRecord.factory)
  watchdog := none
  fallbackOn := false
  entryCount := 0
  receiver := .hunting
  linkReply := .idle
  linkAddress := 1
  linkBaud := .b19200
  spAddress := 0x30
  spReply := .none
  spWrite := .none
  spReading := none
  serviceMode := .plain .openMode
  spAck := false
  spOut := []
  config := Items.factory
  store := .idle
  imageValid := true
  resumeSet := []
  image := Image.factory
  checkGood := true
  flags := 0
  lastRefusal := none
  lastEviction := none

end Sys2Proof.Machine
end

