-- ==== Sys2Proof/Machine/Flags.lean ====
section
/-! DEFINITION. The Event Unit: event flags, the attention line and the two records (chapter 11). -/

namespace Sys2Proof.Machine

/-- The bit of a flag in an event set (09 section 9.5). -/
def EventFlag.bit : EventFlag → Nat
  | .patternMatch => 0
  | .triggerRefused => 1
  | .eviction => 2
  | .chainFailed => 3
  | .channelTrip => 4
  | .channelLocked => 5
  | .openLoad => 6
  | .thermalWarn => 7
  | .thermalShutdown => 8
  | .fallbackEntered => 9
  | .saveDone => 10
  | .saveFailed => 11
  | .storeInvalid => 12
  | .linkError => 13
  | .restarted => 14

/-- The event set that names one flag. -/
def EventFlag.set (e : EventFlag) : EventSet := 1#16 <<< e.bit

/-- An event is raised: its flag is set, and stays set if it was (11 R185). -/
def State.raise (s : State) (e : EventFlag) : State := { s with flags := s.flags ||| e.set }

/-- Whether a flag is set. -/
def State.raised (s : State) (e : EventFlag) : Bool := s.flags &&& e.set != 0

/-- The named flags are cleared, the others stay (11 R188). -/
def State.clearFlags (s : State) (named : EventSet) : State := { s with flags := s.flags &&& ~~~named }

/-- ATN is low while a flag is set whose mask bit is set (11 R186). -/
def State.atnLow (s : State) : Bool := s.flags &&& s.config.attentionMask != 0

/-- TRIGGER_REFUSED is raised and the last-refusal record replaced whole (02 R35, 11 R187). -/
def State.raiseRefused (s : State) (r : RefusalRecord) : State :=
  { s.raise .triggerRefused with lastRefusal := some r }

/-- EVICTION is raised and the last-eviction record replaced whole (04 R86, 11 R187). -/
def State.raiseEviction (s : State) (r : EvictionRecord) : State :=
  { s.raise .eviction with lastEviction := some r }

end Sys2Proof.Machine
end

