-- ==== Sys2Proof/Machine/Levels.lean ====
section
/-! DEFINITION. The time units and the level arithmetic of chapter 03. -/

namespace Sys2Proof.Machine

/-- The unit of a time-unit code, in ms (00, the time-unit code). -/
def unitMs (u : Fin 8) : Nat :=
  match u.val with
  | 0 => 10
  | 1 => 20
  | 2 => 50
  | 3 => 100
  | 4 => 200
  | 5 => 500
  | 6 => 1000
  | _ => 5000

/-- A length in ms: the count multiplied by the unit (00). -/
def Span.ms (x : Span) : Nat := x.count.toNat * unitMs x.unit

/-- A time in ms as the µs that a timer holds (log 2). -/
def inMicros (ms : Nat) : Nat := ms * Config.msMicros

/-- The whole ms that a timer which counts down from the moment of its start still shows (06 R135, R143; log 2). -/
def msLeft (micros : Nat) : Nat := (micros + Config.msMicros - 1) / Config.msMicros

/-- The curve value of a step (03 R65). -/
def curveValue (c : Curve) (s : Nat) : Nat :=
  match c with
  | .linear => 4095 * s / 255
  | .square => 4095 * s ^ 2 / 65025
  | .cube => 4095 * s ^ 3 / 16581375
  | .switch => if s < 128 then 0 else 4095

/-- floor(C × scale × trim / 65025) (03 R66). -/
def scaledLevel (c scale trim : Nat) : Nat := c * scale * trim / 65025

/-- floor(L0 × (R − k) / R) (03 R70). -/
def fadeLevel (l0 r k : Nat) : Nat := l0 * (r - k) / r

/-- floor(P × d / 256) (03 R71). -/
def deratedLevel (p d : Nat) : Nat := p * d / 256

/-- The scale that a cue gives a channel, if it names it (01 R5). -/
def CueRecord.scaleOf (r : CueRecord) (c : Nat) : Option Byte :=
  (r.channels.find? (·.channel == c)).map (·.scale)

/-- The channels a cue names, in its list's order (01 R5). -/
def CueRecord.channelNumbers (r : CueRecord) : List Nat := r.channels.map (·.channel)

/-- The level on a channel outside FADEOUT, from a step (03 R66); 0 on a channel that the cue does not name. -/
def CueRecord.levelAt (r : CueRecord) (step : Byte) (c : Nat) : Nat :=
  match r.scaleOf c with
  | none => 0
  | some scale => scaledLevel (curveValue r.curve step.toNat) scale.toNat r.trim.toNat

/-- The fade origin level of a channel (03 R69); 0 on a channel without one. -/
def originLevel (origins : List OriginLevel) (c : Nat) : Nat :=
  ((origins.find? (·.channel == c)).map (·.level)).getD 0

/-- A play's present level on a channel, by its phase (03 R66, R70). -/
def playLevel (r : CueRecord) (p : Play) (c : Nat) : Nat :=
  match p.phase with
  | .fadeout origins done => fadeLevel (originLevel origins c) r.releaseFade.toNat done
  | .delay | .ramp | .hold | .sustain => r.levelAt p.step c

/-- The fade origin levels of a play: its present level on every channel of its cue (03 R69). -/
def fadeOrigins (r : CueRecord) (p : Play) : List OriginLevel :=
  r.channels.map fun e => ⟨e.channel, playLevel r p e.channel⟩

/-- The derate in force in NORMAL and WARN (03 R71, R72). -/
def derateInForce (t : ThermalState) (factor : Nat) : Nat :=
  match t with
  | .normal => 256
  | .warn => factor
  | .shutdown => 0

end Sys2Proof.Machine
end

