-- ==== Sys2Proof/Machine/Ops.lean ====
section
/-! DEFINITION. The named reads and writes of the state, and the recomputation of the output levels that closes every
action which can move one (03 R71, 05 R102). -/

namespace Sys2Proof.Machine

/-! ## Reading and writing the banks -/

/-- Slot n (01); a number outside 1..64 reads as a FREE slot, and no rule asks for one. -/
def State.slot (s : State) (n : Nat) : Slot := (at1 s.slots n).getD Slot.factory

def State.setSlot (s : State) (n : Nat) (x : Slot) : State := { s with slots := put1 s.slots n x }

/-- The play that record `id` holds, if any (02 R27). -/
def State.play (s : State) (id : Nat) : Option Play := (at1 s.plays id).join

def State.setPlay (s : State) (id : Nat) (x : Option Play) : State := { s with plays := put1 s.plays id x }

/-- The cue record that a play reads: its slot's (01 R11). -/
def State.recordOf (s : State) (p : Play) : CueRecord := (s.slot p.cue).record

/-- The claim list of a channel, from the head (04 R77). -/
def State.claimList (s : State) (c : Nat) : List Nat := (at1 s.claims c).getD []

/-- The play that owns a channel (04 R79). -/
def State.owner (s : State) (c : Nat) : Option Nat := (s.claimList c).head?

def State.channel (s : State) (c : Nat) : Option Channel := at1 s.channels c

def State.setChannel (s : State) (c : Nat) (x : Channel) : State := { s with channels := put1 s.channels c x }

def State.line (s : State) (l : Nat) : Option Line := at1 s.lines l

def State.setLine (s : State) (l : Nat) (x : Line) : State := { s with lines := put1 s.lines l x }

/-- The three configuration items of a line (06 R125). -/
def State.lineItems (s : State) (l : Nat) : LineItems := (at1 s.config.lines l).getD LineItems.factory

def State.pattern (s : State) (k : Nat) : Option Pattern := at1 s.patterns k

def State.setPattern (s : State) (k : Nat) (x : Pattern) : State := { s with patterns := put1 s.patterns k x }

/-- The part is RUNNING (10 R184); in every other stage the run state is STARTING (10 R183). -/
def State.running (s : State) : Bool := s.stage == .running

/-- The ids of the play records, in ascending order. -/
def playIds : List Nat := List.range' 1 24

/-- The id of the play of a cue, if one exists (02 R27: there is at most one). -/
def State.playOf (s : State) (cue : Nat) : Option Nat :=
  playIds.find? fun id => (s.play id).any (·.cue == cue)

/-- How many plays exist, the fallback play among them (08 R171). -/
def State.playTotal (s : State) : Nat := playIds.countP fun id => (s.play id).isSome

/-- How many plays have a source other than FALLBACK (02 R34). -/
def State.ordinaryTotal (s : State) : Nat := playIds.countP fun id => (s.play id).any (·.source != .fallback)

/-! ## Output levels -/

/-- A play's level on a channel, 0 for a record that holds no play (03 R66, R70). -/
def State.levelOf (s : State) (id c : Nat) : Nat :=
  match s.play id with
  | none => 0
  | some p => playLevel (s.recordOf p) p c

/-- Whether a channel's output is held at 0 by the run state, its supervisor state or SHUTDOWN (03 R71). -/
def State.gated (s : State) (state : SupervisorState) : Bool :=
  !s.running || state != .normal || s.thermal.state == .shutdown

/-- The output level of channel `c`, whose supervisor state is `state` (03 R71). -/
def State.outputLevel (s : State) (c : Nat) (state : SupervisorState) : Nat :=
  if s.gated state then 0
  else
    match s.owner c with
    | none => 0
    | some id => deratedLevel (s.levelOf id c) (derateInForce s.thermal.state s.config.derate)

/-- A condition is measured while it is reported and sensed, from zero when that begins; else it stands at none (05 R104). -/
def Sense.measure (x : Sense) (sensed : Bool) : Sense :=
  { x with persistence := if x.reported && sensed then some (x.persistence.getD 0) else none }

/-- A condition whose measurement is discarded (05 R104). -/
def Sense.discard (x : Sense) : Sense := { x with persistence := none }

/-- The good-run timer of a channel that drives from now on: from 0, or stopped while the good-run time is 0 (05 R113). -/
def goodRunStart (time : Byte) : Option Nat := if time = 0 then none else some 0

/-- A channel whose output level becomes `level`: the good-run timer stops at 0 and starts from 0 (05 R113), and each
condition is sensed in its own range (05 R103, R108). -/
def Channel.drive (x : Channel) (level : Nat) (goodRunTime : Byte) : Channel :=
  { x with
    level := level
    goodRun := if level = 0 then none else if x.level = 0 then goodRunStart goodRunTime else x.goodRun
    overcurrent := x.overcurrent.measure (1 ≤ level)
    short := x.short.measure (1 ≤ level)
    openLoad := x.openLoad.measure (64 ≤ level && !x.openLoadFlag) }

/-- Every channel takes the level that 03 R71 gives it now, in the same action as the change (05 R102). -/
def State.drive (s : State) : State :=
  { s with channels := mapBank1 (fun c x => x.drive (s.outputLevel c x.state) s.config.goodRunTime) s.channels }

/-- The three persistences of a channel are discarded (05 R104, R106, R117). -/
def Channel.discardAll (x : Channel) : Channel :=
  { x with overcurrent := x.overcurrent.discard, short := x.short.discard, openLoad := x.openLoad.discard }

/-- One condition of a channel. -/
def Channel.sense (x : Channel) : FaultCondition → Sense
  | .overcurrent => x.overcurrent
  | .short => x.short
  | .openLoad => x.openLoad

def Channel.setSense (x : Channel) (f : FaultCondition) (y : Sense) : Channel :=
  match f with
  | .overcurrent => { x with overcurrent := y }
  | .short => { x with short := y }
  | .openLoad => { x with openLoad := y }

end Sys2Proof.Machine
end

