-- ==== Sys2Proof/Machine/Arbiter.lean ====
section
/-! DEFINITION. The Claim Arbiter: placement, the admission check and its chain variant, arrival and removal (chapter 04). -/

namespace Sys2Proof.Machine

/-- A play's id placed directly behind the last claim that is `higher`, and so ahead of every other (04 R81). -/
def place (higher : Nat → Bool) (id : Nat) : List Nat → List Nat
  | [] => [id]
  | x :: xs => if (x :: xs).any higher then x :: place higher id xs else id :: x :: xs

/-- The present priority of the play that a claim names (04 R77). -/
def State.priorityOf (s : State) (id : Nat) : Nat := ((s.play id).map (·.priority)).getD 0

/-- An admission check admits with the plays marked for eviction, in the order of marking, or fails at a channel (04 R83). -/
inductive Verdict where
  | admits (marks : List Nat)
  | fails (channel : Nat)
  deriving DecidableEq, Repr

/-- The list that the check judges: the chain variant counts the chaining play's own claim as absent (04 R91). -/
def State.judgedList (s : State) (absent : Option Nat) (c : Nat) : List Nat :=
  (s.claimList c).filter fun id => some id != absent

/-- The channels visited in order; `marks` are the plays marked so far (04 R83, R84). -/
def State.checkFrom (s : State) (priority : Nat) (absent : Option Nat) : List Nat → List Nat → Verdict
  | [], marks => .admits marks
  | c :: cs, marks =>
    let l := s.judgedList absent c
    if l.length < Config.claimLimit then s.checkFrom priority absent cs marks
    else
      match l.getLast? with
      | none => s.checkFrom priority absent cs marks
      | some last =>
        if s.priorityOf last < priority then
          s.checkFrom priority absent cs (if marks.contains last then marks else marks ++ [last])
        else .fails c

/-- The admission check (04 R83), or with `absent` its chain variant (04 R91). -/
def State.admissionCheck (s : State) (channels : List Nat) (priority : Nat) (absent : Option Nat := none) : Verdict :=
  s.checkFrom priority absent channels []

/-- An arrival or re-arrival of the play in record `id`: on every channel of its cue its claim, taken out if it stood there,
is placed at the head of the band of the play's present priority (04 R81, R86, R92, R94). -/
def State.arrive (s : State) (id : Nat) : State :=
  match s.play id with
  | none => s
  | some p =>
    let channels := (s.recordOf p).channelNumbers
    { s with
      claims := mapBank1 (fun c l =>
        if channels.contains c then place (fun j => p.priority < s.priorityOf j) id (l.filter (· != id)) else l) s.claims }

/-- A play's claims are removed from every list; the claims behind move forward (04 R96). -/
def State.removeClaims (s : State) (id : Nat) : State :=
  { s with claims := mapBank (fun l => l.filter (· != id)) s.claims }

/-- The claims that name `old` name `new` instead (04 R95). -/
def State.renameClaims (s : State) (old new : Nat) : State :=
  { s with claims := mapBank (fun l => l.map fun id => if id = old then new else id) s.claims }

end Sys2Proof.Machine
end

