-- ==== Sys2Proof/Machine/PlayEngine.lean ====
section
/-! DEFINITION. The Play Engine: how a play begins, changes and ends, triggers, releases, end actions and chains (chapter 02). -/

namespace Sys2Proof.Machine

/-! ## Beginning, ending and restarting -/

/-- The repeats left at an admission or restart (02 R34). -/
def CueRecord.repeatsAtStart (r : CueRecord) : Repeats :=
  match r.endAction with
  | .repeating 0 => .forever
  | .repeating n => .times n
  | .sustain | .release | .chain _ => .times 0

/-- A play at the start of its cue's profile: DELAY, or RAMP when the delay count is 0 (02 R34, R38, R54). -/
def CueRecord.begin (r : CueRecord) (cue : Nat) (source : Source) (priority : Nat) : Play where
  cue := cue
  source := source
  priority := priority
  phase := if r.delay.count = 0 then .ramp else .delay
  step := r.startStep
  timer := if r.delay.count = 0 then r.stepPeriod.toNat else r.delay.ms
  repeats := r.repeatsAtStart
  pendingRestart := false

/-- A restart: the play goes back to the start of its profile with this source and priority, and its claims make a
re-arrival (02 R54, 04 R94). -/
def State.restart (s : State) (id : Nat) (source : Source) (priority : Nat) : State :=
  match s.play id with
  | none => s
  | some p => (s.setPlay id (some ((s.recordOf p).begin p.cue source priority))).arrive id

/-- A RETIRING slot becomes FREE with the empty record, its revision kept (01 R25, R2). -/
def State.freeIfRetiring (s : State) (cue : Nat) : State :=
  if (s.slot cue).status = .retiring then s.setSlot cue (s.slot cue).freed else s

/-- A play ends and does not restart: its record is freed, its claims are removed, and a RETIRING slot becomes FREE (02 R52). -/
def State.endPlay (s : State) (id : Nat) : State :=
  match s.play id with
  | none => s
  | some p => ((s.setPlay id none).removeClaims id).freeIfRetiring p.cue

/-- The end of a fade, or of a release with fade 0: a pending restart is taken, else the play ends (02 R53). -/
def State.endOrRestart (s : State) (id : Nat) : State :=
  match s.play id with
  | none => s
  | some p => if p.pendingRestart then s.restart id p.source (s.recordOf p).priority else s.endPlay id

/-- The play as it enters FADEOUT: its present levels are its origin levels (02 R50, 03 R69). -/
def Play.toFadeout (p : Play) (r : CueRecord) : Play :=
  { p with phase := .fadeout (fadeOrigins r p) 0, timer := r.stepPeriod.toNat }

/-- A play is released: FADEOUT, or its end when the release fade is 0; in FADEOUT the fade goes on (02 R42, R50). -/
def State.releasePlay (s : State) (id : Nat) : State :=
  match s.play id with
  | none => s
  | some p =>
    match p.phase with
    | .fadeout _ _ => s
    | .delay | .ramp | .hold | .sustain =>
      if (s.recordOf p).releaseFade = 0 then s.endOrRestart id
      else s.setPlay id (some (p.toFadeout (s.recordOf p)))

/-- The pending restart of a play is cleared (02 R32). -/
def State.clearPending (s : State) (id : Nat) : State :=
  match s.play id with
  | none => s
  | some p => s.setPlay id (some { p with pendingRestart := false })

/-- What a release request does to a play once its checks have passed (02 R56). -/
def State.requestRelease (s : State) (id : Nat) : State := (s.clearPending id).releasePlay id

/-- An eviction: the play ends without fade, EVICTION is raised and the last-eviction record written (02 R55, 04 R86). -/
def State.evict (s : State) (evicting : Nat) (id : Nat) : State :=
  match s.play id with
  | none => s
  | some p => (s.endPlay id).raiseEviction ⟨p.cue, evicting⟩

/-- The marked plays are evicted in the order in which they were marked (04 R86). -/
def State.evictAll (s : State) (evicting : Nat) (marks : List Nat) : State :=
  marks.foldl (fun t id => t.evict evicting id) s

/-! ## Triggers -/

/-- The outcome of a trigger (02 R30). -/
inductive Outcome where
  | ok (id : Nat)
  | ignored (id : Nat)
  | refused (reason : Status) (channel : Nat)
  deriving DecidableEq, Repr

/-- The lowest id in 1..23 that no play holds (02 R28). -/
def State.lowestFreeId (s : State) : Option Nat := (List.range' 1 23).find? fun id => (s.play id).isNone

/-- A record filled for a new play, whose claims arrive (02 R34, 04 R86). -/
def State.fillRecord (s : State) (id cue : Nat) (source : Source) (priority : Nat) : State :=
  (s.setPlay id (some ((s.slot cue).record.begin cue source priority))).arrive id

/-- The admission of a new play: PLAY_FULL, CLAIM_FULL, or the evictions and then the record and its claims (02 R34). -/
def State.admitPlay (s : State) (cue : Nat) (source : Source) (priority : Nat) : State × Outcome :=
  if Config.ordinaryPlays ≤ s.ordinaryTotal then (s, .refused .playFull 0)
  else
    match s.admissionCheck (s.slot cue).record.channelNumbers priority with
    | .fails c => (s, .refused .claimFull c)
    | .admits marks =>
      let t := s.evictAll cue marks
      match t.lowestFreeId with
      | none => (s, .refused .playFull 0)
      | some id => (t.fillRecord id cue source priority, .ok id)

/-- The retrigger policy of a cue applied to its play `id` (02 R31, R32, R33). -/
def State.retrigger (s : State) (id : Nat) (p : Play) (source : Source) (priority : Nat) : State × Outcome :=
  match (s.recordOf p).policy with
  | .restart => (s.restart id source priority, .ok id)
  | .queue => (s.setPlay id (some { p with pendingRestart := true }), .ok id)
  | .ignore => (s, .ignored id)

/-- A trigger from check 6 on (02 R30). -/
def State.triggerFrom6 (s : State) (cue : Nat) (source : Source) (override : Option Nat) : State × Outcome :=
  let priority := override.getD (s.slot cue).record.priority
  match s.playOf cue with
  | none => s.admitPlay cue source priority
  | some id =>
    match s.play id with
    | none => s.admitPlay cue source priority
    | some p => if p.source = .fallback then (s, .refused .cueProtected 0) else s.retrigger id p source priority

/-- A trigger from check 4 on (02 R30). -/
def State.triggerFrom4 (s : State) (cue : Nat) (source : Source) (override : Option Nat) : State × Outcome :=
  match (s.slot cue).status with
  | .free => (s, .refused .noCue 0)
  | .retiring => (s, .refused .cueRetiring 0)
  | .held => s.triggerFrom6 cue source override

/-- A refusal raises TRIGGER_REFUSED and writes the last-refusal record; OK and IGNORED raise nothing (02 R35). -/
def State.reportOutcome (s : State) (cue : Nat) (source : Source) (o : Outcome) : State :=
  match o with
  | .refused reason channel => s.raiseRefused ⟨cue, source, reason, channel⟩
  | .ok _ | .ignored _ => s

/-- A trigger whose refusal is reported by an event: a pattern action, the start policy (02 R35). -/
def State.triggerReported (s : State) (cue : Nat) (source : Source) : State :=
  let r := s.triggerFrom4 cue source none
  r.1.reportOutcome cue source r.2

/-! ## End actions -/

/-- The source of a play after a chain: CHAIN, or FALLBACK for the fallback play (02 R29). -/
def Play.chainSource (p : Play) : Source := if p.source = .fallback then .fallback else .chain

/-- The priority of a play after a chain to a cue of this priority: 16 for the fallback play (02 R29). -/
def Play.chainPriority (p : Play) (own : Nat) : Nat := if p.source = .fallback then Config.fallbackPriority else own

/-- A chain fails: the play ends without fade and CHAIN_FAILED is raised (02 R45). -/
def State.failChain (s : State) (id : Nat) : State := (s.endPlay id).raise .chainFailed

/-- The handover of record `id`, which holds `p`, to cue `t` (02 R49, 04 R91, R92, R93). -/
def State.handover (s : State) (id : Nat) (p : Play) (t : Nat) : State :=
  let r := (s.slot t).record
  let priority := p.chainPriority r.priority
  match s.admissionCheck r.channelNumbers priority (some id) with
  | .fails _ => s.failChain id
  | .admits marks => ((s.evictAll t marks).removeClaims id).fillRecord id t p.chainSource priority

/-- A chain to a cue that has a play `target`, by a play other than the fallback play (02 R47). -/
def State.chainToBusy (s : State) (id t : Nat) : State :=
  let r := s.triggerFrom6 t .chain none
  (r.1.reportOutcome t .chain r.2).endPlay id

/-- End action CHAIN with target `t` (02 R44). -/
def State.chain (s : State) (id : Nat) (p : Play) (t : Nat) : State :=
  if (s.slot t).status ≠ .held then s.failChain id
  else if t = p.cue then s.restart id p.chainSource (p.chainPriority (s.recordOf p).priority)
  else
    match s.playOf t with
    | none => s.handover id p t
    | some other => if p.source = .fallback then (s.endPlay other).handover id p t else s.chainToBusy id t

/-- End action REPEAT: back to the start step in RAMP, or a release when the repeats are exhausted (02 R43). -/
def State.repeatPlay (s : State) (id : Nat) (p : Play) : State :=
  let r := s.recordOf p
  let again (left : Repeats) : State :=
    s.setPlay id (some { p with phase := .ramp, step := r.startStep, timer := r.stepPeriod.toNat, repeats := left })
  match p.repeats with
  | .forever => again .forever
  | .times 0 => s.releasePlay id
  | .times (n + 1) => again (.times n)

/-- The end action of play `p` in record `id` (section 2.4), or the release that every end action of a RETIRING cue leads
to (02 R61). -/
def State.endAction (s : State) (id : Nat) (p : Play) : State :=
  if (s.slot p.cue).status = .retiring then s.releasePlay id
  else
    match (s.recordOf p).endAction with
    | .sustain => s.setPlay id (some { p with phase := .sustain, timer := 0 })
    | .release => s.releasePlay id
    | .repeating _ => s.repeatPlay id p
    | .chain t => s.chain id p t

/-- The end of RAMP (02 R40). -/
def State.endRamp (s : State) (id : Nat) (p : Play) : State :=
  let r := s.recordOf p
  if r.endAction = .sustain ∨ r.hold.count = 0 then s.endAction id p
  else s.setPlay id (some { p with phase := .hold, timer := r.hold.ms })

/-- One place from `a` toward `b` (02 R39). -/
def stepToward (a b : Byte) : Byte := if a.toNat < b.toNat then a + 1 else if b.toNat < a.toNat then a - 1 else a

/-- The expiry of a ramp step (02 R39). -/
def State.rampStep (s : State) (id : Nat) (p : Play) : State :=
  let r := s.recordOf p
  let q := { p with step := stepToward p.step r.stopStep }
  if q.step = r.stopStep then (s.setPlay id (some q)).endRamp id q
  else s.setPlay id (some { q with timer := r.stepPeriod.toNat })

/-- The expiry of a fade step with `origins` and k = `done` (02 R51). -/
def State.fadeStep (s : State) (id : Nat) (p : Play) (origins : List OriginLevel) (done : Nat) : State :=
  let r := s.recordOf p
  if done + 1 = r.releaseFade.toNat then s.endOrRestart id
  else s.setPlay id (some { p with phase := .fadeout origins (done + 1), timer := r.stepPeriod.toNat })

/-! ## Pattern actions (06 section 6.4) -/

/-- The RELEASE action: silent without a play, and on the fallback play (06 R138). -/
def State.patternRelease (s : State) (cue : Nat) : State :=
  match s.playOf cue with
  | none => s
  | some id => if (s.play id).any (·.source == .fallback) then s else s.requestRelease id

/-- DELAY, RAMP, HOLD or SUSTAIN: the phases from which a release has an effect (02 R50). -/
def Phase.beforeFade : Phase → Bool
  | .delay | .ramp | .hold | .sustain => true
  | .fadeout _ _ => false

/-- Whether the play of a cue exists and stands before FADEOUT (06 R139). -/
def State.playBeforeFade (s : State) (cue : Nat) : Bool :=
  match s.playOf cue with
  | none => false
  | some id => (s.play id).any (·.phase.beforeFade)

/-- The action of pattern `k` with record `r` (06 R137, R138, R139). -/
def State.patternAction (s : State) (k : Nat) (r : PatternRecord) : State :=
  match r.action with
  | .trigger => s.triggerReported r.cue (.input k)
  | .release => s.patternRelease r.cue
  | .toggle => if s.playBeforeFade r.cue then s.patternRelease r.cue else s.triggerReported r.cue (.input k)

end Sys2Proof.Machine
end

