-- ==== Sys2Proof/Machine/Inputs.lean ====
section
/-! DEFINITION. The Input Matcher: debounce, input events, the offer to the patterns and the actions it leads to (chapter 06). -/

namespace Sys2Proof.Machine

/-- A debounce in ms (06 R125). -/
def Debounce.ms : Debounce → Nat
  | .ms0 => 0
  | .ms5 => 5
  | .ms20 => 20
  | .ms50 => 50

/-- The full window of a pattern, in units of 50 ms (06 section 6.2). -/
def PatternRecord.windowMicros (r : PatternRecord) : Nat := inMicros (r.window * 50)

/-- A pattern record with no match in hand (06 R131, R142). -/
def Pattern.clear (x : Pattern) : Pattern := { x with progress := 0, window := none }

/-- Whether an event equals the element that an enabled pattern waits for and is its last one (06 R132, R134). -/
def Pattern.completes (x : Pattern) (e : InputEvent) : Bool :=
  x.record.enabled && x.record.elements[x.progress]? == some e && x.progress + 1 == x.record.elements.length

/-- The match state of a pattern after an event is offered to it (06 R132, R133, R134). -/
def Pattern.offer (x : Pattern) (e : InputEvent) : Pattern :=
  if !x.record.enabled then x
  else if x.record.elements[x.progress]? = some e then
    if x.progress + 1 = x.record.elements.length then x.clear
    else { x with progress := x.progress + 1, window := if x.progress = 0 then some x.record.windowMicros else x.window }
  else if x.record.elements.head? = some e then { x with progress := 1, window := some x.record.windowMicros }
  else x.clear

/-- The indexes 1..16 of the patterns. -/
def patternIds : List Nat := List.range' 1 16

/-- The patterns that an event completes, in ascending order of index (06 R132, R136). -/
def State.completedBy (s : State) (e : InputEvent) : List Nat :=
  patternIds.filter fun k => (s.pattern k).any (·.completes e)

/-- An event offered to every pattern; PATTERN_MATCH is raised when one completes (06 R132, R134). -/
def State.offer (s : State) (e : InputEvent) : State :=
  let t := { s with patterns := mapBank (·.offer e) s.patterns }
  if s.completedBy e = [] then t else t.raise .patternMatch

/-- The action of pattern `k`, taken in full: the outputs follow before the next action (06 R136, log 23). -/
def State.performAction (s : State) (k : Nat) : State :=
  match s.pattern k with
  | none => s
  | some x => (s.patternAction k x.record).drive

/-- An input event: the whole offer first, then the actions of the completed patterns in ascending order (06 R129, R136). -/
def State.inputEvent (s : State) (e : InputEvent) : State :=
  (s.completedBy e).foldl State.performAction (s.offer e)

/-- The event that a line produces when its accepted level becomes `level` (06 R129). -/
def LineItems.eventFor (i : LineItems) (l : Nat) (level : LineLevel) : InputEvent :=
  ⟨l, if level = i.activeLevel then .press else .release⟩

/-- The accepted level of line `l` changes to its raw level, with its input event (06 R127, R129). -/
def State.acceptRaw (s : State) (l : Nat) (x : Line) : State :=
  (s.setLine l { x with accepted := some x.raw, timer := none }).inputEvent ((s.lineItems l).eventFor l x.raw)

/-- A line that is watched, at the moment its raw level has become that of `x` (06 R127). -/
def State.watchRaw (s : State) (l : Nat) (x : Line) : State :=
  let i := s.lineItems l
  if x.accepted = some x.raw then s.setLine l { x with timer := none }
  else if i.debounce = .ms0 then s.acceptRaw l x
  else s.setLine l { x with timer := some (inMicros i.debounce.ms) }

/-- The live state of a line after its items are set, or at the entry to RUNNING (06 R126, R128). -/
def Line.rebase (x : Line) (enabled : Bool) : Line :=
  { x with accepted := if enabled then some x.raw else none, timer := none }

end Sys2Proof.Machine
end

