-- ==== Sys2Proof/Machine/Supervisor.lean ====
section
/-! DEFINITION. The Channel Supervisor's trips, retries, clears and good-run timers, and the Thermal Monitor's readings
(chapter 05). -/

namespace Sys2Proof.Machine

/-- A fault deglitch time in µs (05 R105). -/
def Deglitch.us : Deglitch → Nat
  | .us50 => 50
  | .us100 => 100
  | .us200 => 200
  | .us400 => 400

/-- What the retry timer is started with: the retry delay, in units of 10 ms (05 R112). -/
def Items.retryMicros (i : Items) : Nat := inMicros (i.retryDelay.toNat * 10)

/-- What the good-run timer expires at: the good-run time, in s (05 R114). -/
def Items.goodRunMicros (i : Items) : Nat := inMicros (i.goodRunTime.toNat * 1000)

/-- A channel that trips: output 0, count one higher, LOCKED when the count is above max retries, else TRIPPED with the
retry timer started (05 R106). -/
def Channel.tripped (x : Channel) (i : Items) : Channel :=
  let count := x.retryCount + 1
  { x.discardAll with
    state := if i.maxRetries < count then .locked else .tripped
    retryCount := count
    retryTimer := if i.maxRetries < count then none else some i.retryMicros
    goodRun := none
    level := 0 }

/-- The event that a trip raises (05 R106). -/
def Channel.tripEvent (x : Channel) (i : Items) : EventFlag :=
  if i.maxRetries < x.retryCount + 1 then .channelLocked else .channelTrip

/-- A channel whose retry timer expires: NORMAL, its count kept (05 R109). -/
def Channel.retried (x : Channel) : Channel := { x with state := .normal, retryTimer := none }

/-- A channel named by CLEAR_FAULT, before its output is computed again (05 R117). Its level is taken as 0 here, so that the
good-run timer runs from 0 when the channel drives. -/
def Channel.cleared (x : Channel) : Channel :=
  { x.discardAll with
    state := .normal
    retryCount := 0
    retryTimer := none
    goodRun := none
    openLoadFlag := false
    level := 0 }

/-- The channels named are cleared in one action (05 R116, R117). -/
def State.clearFaults (s : State) (named : List Nat) : State :=
  State.drive { s with channels := mapBank1 (fun c x => if named.contains c then x.cleared else x) s.channels }

/-- A change of the deglitch time discards every persistence (05 R105). -/
def State.discardPersistences (s : State) : State := { s with channels := mapBank Channel.discardAll s.channels }

/-- A change of the good-run time restarts or stops every good-run timer (05 R114). -/
def Channel.restartGoodRun (x : Channel) (time : Byte) : Channel :=
  { x with goodRun := if x.state = .normal ∧ x.level ≠ 0 then goodRunStart time else none }

def State.restartGoodRuns (s : State) : State :=
  { s with channels := mapBank (·.restartGoodRun s.config.goodRunTime) s.channels }

/-! ## The Thermal Monitor -/

/-- The averaging N (05 R120). -/
def Averaging.samples : Averaging → Nat
  | .n4 => 4
  | .n8 => 8
  | .n16 => 16
  | .n32 => 32

/-- The thermal state after a reading, with the event that the change raises (05 R121). -/
def thermalStep (i : Items) (present : ThermalState) (reading : Int) : ThermalState × Option EventFlag :=
  if present ≠ .shutdown ∧ (i.shutdown : Int) ≤ reading then (.shutdown, some .thermalShutdown)
  else if present = .normal ∧ (i.warn : Int) ≤ reading then (.warn, some .thermalWarn)
  else if present = .shutdown ∧ reading ≤ (i.shutdown : Int) - i.hysteresis then (.warn, none)
  else if present = .warn ∧ reading ≤ (i.warn : Int) - i.hysteresis then (.normal, none)
  else (present, none)

/-- The accumulator emptied (05 R119, R120). -/
def Thermal.emptied (x : Thermal) : Thermal := { x with sum := 0, count := 0 }

def State.raiseOption (s : State) : Option EventFlag → State
  | none => s
  | some e => s.raise e

/-- A reading is produced and taken against the thresholds (05 R120, R121). -/
def State.takeReading (s : State) (reading : Int) : State :=
  let r := thermalStep s.config s.thermal.state reading
  State.raiseOption { s with thermal := { sum := 0, count := 0, lastReading := some reading, state := r.1 } } r.2

/-- A sample goes into the accumulator; with N samples held a reading is produced, rounded down (05 R119, R120). -/
def State.takeSample (s : State) (degrees : Int) : State :=
  let n := s.config.averaging.samples
  let sum := s.thermal.sum + degrees
  if s.thermal.count + 1 < n then { s with thermal := { s.thermal with sum := sum, count := s.thermal.count + 1 } }
  else s.takeReading (sum.fdiv n)

end Sys2Proof.Machine
end

