-- ==== Sys2Proof/Machine/Startup.lean ====
section
/-! DEFINITION. The link watchdog and fallback (chapter 07), the image, the reset and the start-up (chapter 10). -/

namespace Sys2Proof.Machine

/-! ## The watchdog -/

/-- The watchdog time (07 R146). -/
def Items.watchdogMicros (i : Items) : Nat :=
  inMicros (i.watchdogPeriod.toNat * (match i.watchdogUnit with | .second => 1000 | .minute => 60000))

/-- The watchdog runs while the part is RUNNING, fallback is off and the period is not 0 (07 R147). -/
def State.watchdogRuns (s : State) : Bool := s.running && !s.fallbackOn && s.config.watchdogPeriod != 0

/-- An event that starts or restarts the watchdog; it stays stopped where it does not run (07 R147). -/
def State.startWatchdog (s : State) : State :=
  if s.watchdogRuns then { s with watchdog := some s.config.watchdogMicros } else s

/-- An accepted SET_CONFIG of the period or the unit (07 R149). -/
def State.resetWatchdog (s : State) : State :=
  { s with watchdog := if s.watchdogRuns then some s.config.watchdogMicros else none }

/-! ## Fallback -/

/-- The fallback cue is usable: 1..64, and its slot HELD (07 R151). -/
def State.fallbackUsable (s : State) : Bool :=
  s.config.fallbackCue != 0 && (s.slot s.config.fallbackCue).status == .held

/-- The play of record `id` becomes the fallback play: it moves into record 24, restarts there, and its claims name record
24 and make a re-arrival at priority 16 (07 R153, 04 R95). -/
def State.convert (s : State) (id : Nat) (p : Play) : State :=
  let q := (s.recordOf p).begin p.cue .fallback Config.fallbackPriority
  (((s.setPlay id none).setPlay Config.fallbackId (some q)).renameClaims id Config.fallbackId).arrive Config.fallbackId

/-- A new fallback play in record 24, its claims admitted at priority 16 (07 R154, 04 R87). -/
def State.admitFallback (s : State) (cue : Nat) : State :=
  match s.admissionCheck (s.slot cue).record.channelNumbers Config.fallbackPriority with
  | .fails _ => s
  | .admits marks =>
    (s.evictAll cue marks).fillRecord Config.fallbackId cue .fallback Config.fallbackPriority

/-- Record 24 is empty: the fallback cue's play is converted, or a new one is made (07 R153, R154). -/
def State.makeFallback (s : State) (cue : Nat) : State :=
  match s.playOf cue with
  | none => s.admitFallback cue
  | some id =>
    match s.play id with
    | none => s.admitFallback cue
    | some p => s.convert id p

/-- Step 6 of a fallback entry: the fallback play is made, kept or left out (07 R151 to R155). -/
def State.settleFallback (s : State) : State :=
  if !s.fallbackUsable then s
  else
    match s.play Config.fallbackId with
    | none => s.makeFallback s.config.fallbackCue
    | some p =>
      if p.cue = s.config.fallbackCue then s.restart Config.fallbackId .fallback Config.fallbackPriority
      else (s.endPlay Config.fallbackId).makeFallback s.config.fallbackCue

/-- A fallback entry (07 R151). -/
def State.enterFallback (s : State) : State :=
  (State.raise { s with fallbackOn := true, entryCount := s.entryCount + 1, frozen := false, watchdog := none }
    .fallbackEntered).settleFallback

/-- An accepted FALLBACK_EXIT: the flag goes off, the fallback play is released, the watchdog restarts (07 R159). -/
def State.exitFallback (s : State) : State :=
  (State.releasePlay { s with fallbackOn := false } Config.fallbackId).startWatchdog

/-! ## The image -/

/-- A slot as the image holds it: HELD as it is, every other as FREE with its revision (10 R179, 01 R3). -/
def Slot.stored (x : Slot) : Slot :=
  match x.status with
  | .held => x
  | .free | .retiring => x.freed

/-- The contents a save writes: the working tables as they stand (10 R179). -/
def State.imageContents (s : State) : Image where
  slots := mapBank Slot.stored s.slots
  patterns := mapBank (·.record) s.patterns
  config := s.config
  resume := s.resumeSet

/-- An entry to the OFF mode discards a ready reply (08 R168, R170). -/
def SpReply.discardReady : SpReply → SpReply
  | .ready _ => .none
  | .none => .none
  | .preparing => .preparing

/-- What a read in progress has still to supply when OFF is entered: FFh alone where a ready reply is discarded (08 R170). -/
def SpReply.cutRead (r : SpReply) (reading : Option (List Byte)) : Option (List Byte) :=
  match r with
  | .ready _ => reading.map fun _ => []
  | .none => reading
  | .preparing => reading

/-- The live mode becomes `mode` (08 R169, R170). -/
def State.enterMode (s : State) (mode : ServiceMode) : State :=
  { s with
    serviceMode := .plain mode
    spReply := if mode = .off then s.spReply.discardReady else s.spReply
    spReading := if mode = .off then s.spReply.cutRead s.spReading else s.spReading }

/-- The store returns to IDLE, and a deferred entry to OFF takes effect in the same action (10 R179, 08 R170). -/
def State.storeIdle (s : State) : State :=
  match s.serviceMode with
  | .offPending _ => State.enterMode { s with store := .idle } .off
  | .plain _ => { s with store := .idle }

/-! ## Reset and start-up -/

/-- The Service Port's target address from its pins (08 R167). -/
def spAddressOf (sa1 sa0 : Bool) : BitVec 7 := 0x30 + (if sa1 then 2 else 0) + (if sa0 then 1 else 0)

/-- A channel record after a reset; what its stage reports is an input and stays (05 R101, R104). -/
def Channel.reset (x : Channel) : Channel :=
  { Channel.initial with
    overcurrent := x.overcurrent.discard
    short := x.short.discard
    openLoad := x.openLoad.discard }

/-- The configuration from a reset to the load's end: address, group list, baud rate, thermal items and attention mask at
their factory values; the other items are used by nothing in that time and stay (10 R183, 05 R119, 11 R186; log 12). -/
def Items.untilLoad (i : Items) : Items :=
  { i with
    unitAddress := Items.factory.unitAddress
    groups := Items.factory.groups
    baud := Items.factory.baud
    averaging := Items.factory.averaging
    warn := Items.factory.warn
    shutdown := Items.factory.shutdown
    hysteresis := Items.factory.hysteresis
    attentionMask := Items.factory.attentionMask }

/-- The slot of a play that a reset ends: FREE when it was RETIRING (01 R25; log 13). -/
def Slot.afterReset (x : Slot) : Slot := if x.status = .retiring then x.freed else x

/-- The reset that all three causes share (10 R182, with the reset values of every chapter). A save in progress ends
without completion: its check word stays invalid (10 R180). -/
def State.partReset (s : State) (cause : ResetCause) : State :=
  { s with
    micros := 0
    stage := if s.rstnLow || !s.powered then .held else .loading
    resetCause := cause
    slots := mapBank Slot.afterReset s.slots
    plays := Vector.replicate 24 none
    frozen := false
    claims := Vector.replicate 16 []
    channels := mapBank Channel.reset s.channels
    thermal := Thermal.initial
    lines := mapBank (fun x => Line.initial x.raw) s.lines
    patterns := mapBank Pattern.clear s.patterns
    watchdog := none
    fallbackOn := false
    entryCount := 0
    receiver := .hunting
    linkReply := .idle
    linkAddress := Items.factory.unitAddress
    linkBaud := Items.factory.baud
    spAddress := spAddressOf s.sa1 s.sa0
    spReply := .none
    spWrite := .none
    spReading := none
    serviceMode := .plain .openMode
    config := s.config.untilLoad
    store := .idle
    flags := 0
    lastRefusal := none
    lastEviction := none }

/-- The settle delay, in units of 100 ms (10 R183). -/
def Items.settleMicros (i : Items) : Nat := inMicros (i.settleDelay * 100)

/-- The working tables take the contents of an image, in the same action as the load ends (10 R183). A loaded averaging that
differs from the one in use empties the accumulator (05 R119). -/
def State.loadTables (s : State) (m : Image) : State :=
  State.enterMode
    { s with
      stage := .settling m.config.settleMicros
      slots := m.slots
      patterns := mapBank Pattern.idle m.patterns
      config := m.config
      resumeSet := m.resume
      linkAddress := m.config.unitAddress
      linkBaud := m.config.baud
      receiver := .hunting
      thermal := if m.config.averaging = s.config.averaging then s.thermal else s.thermal.emptied }
    m.config.serviceMode

/-- The end of the image load (10 R183, R177). -/
def State.endLoad (s : State) : State :=
  if s.checkGood then { s.loadTables s.image with imageValid := true }
  else State.raise { s.loadTables Image.factory with imageValid := false } .storeInvalid

/-- The cues that the start policy triggers, in order (10 R184). -/
def State.startCues (s : State) : List Nat :=
  match s.config.startPolicy with
  | .dark => []
  | .startCue => if s.config.startCue = 0 then [] else [s.config.startCue]
  | .resumeSet => s.resumeSet

/-- Every enabled line takes its raw level as its accepted level (06 R126). -/
def State.acceptLines (s : State) : State :=
  { s with lines := mapBank1 (fun l x => x.rebase (s.lineItems l).enabled) s.lines }

/-- The entry to RUNNING with the start policy's triggers, each whole before the next (10 R184). -/
def State.enterRunning (s : State) : State :=
  let t := (State.acceptLines { s with stage := .running }).startWatchdog
  ((s.startCues.foldl (fun u cue => u.triggerReported cue .start) t).drive).raise .restarted

end Sys2Proof.Machine
end

