-- ==== Sys2Proof/Machine/Replies.lean ====
section
/-! DEFINITION. The bytes of replies: the enumerations of 09 R172, the records, and the blocks of Table 9.4b. -/

namespace Sys2Proof.Machine

/-! ## Enumerations (09 R172, Table 9.3b) -/

def Status.code : Status → Byte
  | .ok => 0x00
  | .accepted => 0x01
  | .ignored => 0x02
  | .notReady => 0x10
  | .badRequest => 0x11
  | .badFrame => 0x12
  | .badArg => 0x13
  | .refused => 0x14
  | .wrongPort => 0x15
  | .busy => 0x16
  | .noCue => 0x20
  | .noPlay => 0x21
  | .cueInUse => 0x22
  | .cueRetiring => 0x23
  | .dupLabel => 0x24
  | .stale => 0x25
  | .cueProtected => 0x26
  | .playFull => 0x27
  | .claimFull => 0x28
  | .badToken => 0x30
  | .notInFallback => 0x31

/-- The status byte of a reply that is not yet ready (09 Table 9.3b, PENDING). -/
def pendingCode : Byte := 0xFF

/-- "None" for any field but a cue, play id, channel or continue-from (09 R172). -/
def noneByte : Byte := 0xFF

def SlotStatus.code : SlotStatus → Byte
  | .free => 0
  | .held => 1
  | .retiring => 2

def Curve.code : Curve → Byte
  | .linear => 0
  | .square => 1
  | .cube => 2
  | .switch => 3

def EndAction.code : EndAction → Byte
  | .sustain => 0
  | .release => 1
  | .repeating _ => 2
  | .chain _ => 3

/-- The end-action parameter (01 R7). -/
def EndAction.parameter : EndAction → Nat
  | .sustain => 0
  | .release => 0
  | .repeating n => n
  | .chain t => t

def Policy.code : Policy → Byte
  | .restart => 0
  | .queue => 1
  | .ignore => 2

def Phase.code : Phase → Byte
  | .delay => 0
  | .ramp => 1
  | .hold => 2
  | .sustain => 3
  | .fadeout _ _ => 4

/-- A source and the pattern index byte that always follows it (09 R172). -/
def Source.bytes : Source → List Byte
  | .buildingLink => [0, 0]
  | .servicePort => [1, 0]
  | .input k => [2, byte k]
  | .chain => [3, 0]
  | .fallback => [4, 0]
  | .start => [5, 0]

def Repeats.code : Repeats → Byte
  | .times n => byte n
  | .forever => 0xFF

def SupervisorState.code : SupervisorState → Byte
  | .normal => 0
  | .tripped => 1
  | .locked => 2

def ThermalState.code : ThermalState → Byte
  | .normal => 0
  | .warn => 1
  | .shutdown => 2

def ResetCause.code : ResetCause → Byte
  | .power => 0
  | .pin => 1
  | .request => 2

def Port.code : Port → Byte
  | .buildingLink => 0
  | .servicePort => 1

/-- The store state and the store owner (09 Table 9.6). -/
def StoreState.bytes : StoreState → List Byte
  | .idle => [0, noneByte]
  | .saving owner _ => [1, owner.code]

def ServiceMode.code : ServiceMode → Byte
  | .openMode => 0
  | .readOnly => 1
  | .silent => 2
  | .off => 3

def LiveMode.code : LiveMode → Byte
  | .plain m => m.code
  | .offPending _ => 4

def PatternAction.code : PatternAction → Byte
  | .trigger => 0
  | .release => 1
  | .toggle => 2

def EventKind.code : EventKind → Byte
  | .press => 0
  | .release => 1

def lineLevelCode : LineLevel → Byte
  | .low => 0
  | .high => 1

def acceptedCode : Option LineLevel → Byte
  | none => noneByte
  | some v => lineLevelCode v

def Baud.code : Baud → Byte
  | .b19200 => 0
  | .b38400 => 1
  | .b57600 => 2
  | .b115200 => 3

def WatchdogUnit.code : WatchdogUnit → Byte
  | .second => 0
  | .minute => 1

def StartPolicy.code : StartPolicy → Byte
  | .dark => 0
  | .startCue => 1
  | .resumeSet => 2

def Deglitch.code : Deglitch → Byte
  | .us50 => 0
  | .us100 => 1
  | .us200 => 2
  | .us400 => 3

/-- The last reading: the reading + 40, FFh for none (09 R172). -/
def readingCode : Option Int → Byte
  | none => noneByte
  | some t => byte (t + 40).toNat

/-! ## Replies and their frames (09 section 9.1) -/

/-- A reply with no payload. -/
def Reply.bare (st : Status) : Reply := ⟨st, []⟩

/-- Status, length, payload and CRC-8, as the Service Port carries them (08 R168). -/
def Reply.spBytes (r : Reply) : List Byte :=
  let body := r.status.code :: byte r.payload.length :: r.payload
  body ++ [crc8 body]

/-- What a read returns while no reply is ready (08 R168). -/
def pendingBytes : List Byte := [pendingCode, 0, crc8 [pendingCode, 0]]

/-- The bytes a Service Port read supplies for a pending reply (08 R168). -/
def SpReply.bytes : SpReply → List Byte
  | .none => pendingBytes
  | .preparing => pendingBytes
  | .ready r => r.spBytes

/-- The first `count` bytes of a read; past the CRC-8 every byte reads FFh (08 R168). -/
def readBytes (bs : List Byte) (count : Nat) : List Byte := bs.take count ++ List.replicate (count - bs.length) 0xFF

/-- The reply frame on the Building Link, from unit address `address` (09 section 9.1). -/
def Reply.frame (r : Reply) (address : Nat) : List Byte :=
  let body := byte (address + 0x80) :: byte r.payload.length :: r.status.code :: r.payload
  0x5A :: (body ++ [crc8 body])

/-! ## Records -/

/-- The cue record with its trim (09 section 9.4). -/
def CueRecord.bytes (r : CueRecord) : List Byte :=
  byte r.label.length :: r.label ++
    [byte r.priority, r.curve.code, r.startStep, r.stopStep, r.stepPeriod, r.delay.count, byte r.delay.unit.val,
     r.hold.count, byte r.hold.unit.val, r.endAction.code, byte r.endAction.parameter, r.policy.code, r.releaseFade,
     byte r.channels.length] ++
    r.channels.flatMap (fun e => [byte e.channel, e.scale]) ++ [r.trim]

/-- The pattern record (09 section 9.4). -/
def PatternRecord.bytes (r : PatternRecord) : List Byte :=
  [byteOfBool r.enabled, byte r.elements.length] ++
    r.elements.flatMap (fun e => [byte e.line, e.kind.code]) ++ [byte r.window, r.action.code, byte r.cue]

/-- The last-refusal record; an empty one reads 00h in every field (09 R173, 11 R187). -/
def refusalBytes : Option RefusalRecord → List Byte
  | none => [0, 0, 0, 0, 0]
  | some r => byte r.cue :: r.source.bytes ++ [r.reason.code, byte r.channel]

def evictionBytes : Option EvictionRecord → List Byte
  | none => [0, 0]
  | some r => [byte r.evicted, byte r.evicting]

/-! ## Payloads of the reading requests (09 Table 9.4b) -/

/-- The status block (09 Table 9.6, 08 R171). -/
def State.statusBlock (s : State) : List Byte :=
  [byteOfBool s.running, s.resetCause.code, byteOfBool s.fallbackOn, s.entryCount, byteOfBool s.frozen,
   s.thermal.state.code, readingCode s.thermal.lastReading] ++ s.store.bytes ++
    [byteOfBool s.imageValid, s.serviceMode.code, byte s.playTotal] ++ bytes2 s.flags.toNat

/-- 11 R187. -/
def State.eventsBlock (s : State) : List Byte :=
  bytes2 s.flags.toNat ++ bytes2 s.config.attentionMask.toNat ++ refusalBytes s.lastRefusal ++ evictionBytes s.lastEviction

/-- The group list in 5 bytes: its count and four places (09 R175). -/
def groupBytes (groups : List Nat) : List Byte :=
  byte groups.length :: ((groups.map byte) ++ List.replicate 4 0).take 4

/-- The configuration block: every item in ascending order of its code (09 R175). -/
def Items.bytes (i : Items) : List Byte :=
  byte i.unitAddress :: groupBytes i.groups ++
    [i.baud.code, i.watchdogPeriod, i.watchdogUnit.code, byte i.fallbackCue, i.startPolicy.code, byte i.startCue,
     byte i.settleDelay, i.serviceMode.code, byte i.maxRetries, i.retryDelay, i.goodRunTime, i.deglitch.code,
     byte i.averaging.samples, byte i.warn, byte i.shutdown, byte i.hysteresis, byte i.derate] ++
    i.lines.toList.map (fun l => byteOfBool l.enabled) ++ i.lines.toList.map (fun l => lineLevelCode l.activeLevel) ++
    i.lines.toList.map (fun l => byte l.debounce.ms) ++ bytes2 i.attentionMask.toNat

/-- 01 R13. -/
def Slot.bytes (x : Slot) : List Byte := x.status.code :: x.revision :: x.record.bytes

/-- The next number after a listing: the first of what is left, 0 when nothing is (01 R14, 02 R63, R64). -/
def continueFrom (rest : List Nat) : Byte := byte (rest.head?.getD 0)

/-- The non-FREE slots numbered `first` or above, in ascending order (01 R14). -/
def State.listedSlots (s : State) (first : Nat) : List Nat :=
  (List.range' 1 64).filter fun n => first ≤ n && (s.slot n).status != .free

/-- A LIST_CUES reply (01 R14). -/
def State.cueListing (s : State) (first : Nat) : List Byte :=
  let all := s.listedSlots first
  let given := all.take Config.listCuesLimit
  byte given.length ::
    given.flatMap (fun n => [byte n, (s.slot n).status.code, (s.slot n).revision]) ++
    [continueFrom (all.drop Config.listCuesLimit)]

/-- The HELD or RETIRING slots that hold a label, in ascending order (01 R15; by R6 at most one for a label not empty). -/
def State.slotsLabelled (s : State) (label : List Byte) : List Nat :=
  (List.range' 1 64).filter fun n => (s.slot n).status != .free && (s.slot n).record.label == label

/-- The existing plays with ids `first` and above (02 R63). -/
def State.listedPlays (s : State) (first : Nat) : List Nat :=
  playIds.filter fun id => first ≤ id && (s.play id).isSome

def playEntry (id : Nat) (p : Play) : List Byte :=
  byte id :: byte p.cue :: p.source.bytes ++ [byte p.priority, p.phase.code]

/-- A LIST_PLAYS reply (02 R63). -/
def State.playListing (s : State) (first : Nat) : List Byte :=
  let all := s.listedPlays first
  let given := all.take Config.listPlaysLimit
  byte given.length ::
    given.flatMap (fun id => match s.play id with | none => [] | some p => playEntry id p) ++
    [continueFrom (all.drop Config.listPlaysLimit)]

/-- Fade steps done, 0 outside FADEOUT (02 R64). -/
def Phase.done : Phase → Nat
  | .fadeout _ k => k
  | .delay | .ramp | .hold | .sustain => 0

/-- The fade origin level of a channel, 0 outside FADEOUT (02 R64). -/
def Phase.originAt : Phase → Nat → Nat
  | .fadeout origins _, c => originLevel origins c
  | .delay, _ | .ramp, _ | .hold, _ | .sustain, _ => 0

/-- The play header (09 Table 9.7). -/
def playHeader (id : Nat) (p : Play) : List Byte :=
  byte id :: byte p.cue :: p.source.bytes ++ [byte p.priority, p.phase.code, p.step] ++ bytes3 p.timer ++
    [p.repeats.code, byteOfBool p.pendingRestart, byte p.phase.done]

/-- A channel entry of QUERY_PLAY (02 R64). -/
def State.playChannelEntry (s : State) (id : Nat) (p : Play) (c : Nat) : List Byte :=
  byte c :: bytes2 (playLevel (s.recordOf p) p c) ++ [byteOfBool (s.owner c == some id)] ++ bytes2 (p.phase.originAt c)

/-- A QUERY_PLAY reply from channel entry `first` of the cue's list (02 R64). -/
def State.playReport (s : State) (id : Nat) (p : Play) (first : Nat) : List Byte :=
  let all := (s.recordOf p).channelNumbers
  let given := (all.drop (first - 1)).take Config.queryPlayLimit
  let next := first + Config.queryPlayLimit
  playHeader id p ++ byte given.length :: given.flatMap (s.playChannelEntry id p) ++
    [if next ≤ all.length then byte next else 0]

/-- A claim entry of QUERY_CHANNEL (04 R98). -/
def State.claimEntry (s : State) (c id : Nat) : List Byte :=
  match s.play id with
  | none => []
  | some p => [byte id, byte p.cue, byte p.priority] ++ bytes2 (playLevel (s.recordOf p) p c)

/-- A QUERY_CHANNEL reply (04 R98). -/
def State.channelReport (s : State) (c : Nat) (x : Channel) : List Byte :=
  [x.state.code, byte x.retryCount, byteOfBool x.openLoadFlag] ++ bytes2 x.level ++
    byte (s.claimList c).length :: (s.claimList c).flatMap (s.claimEntry c)

/-- A READ_PATTERN reply, with the whole ms left on the window (06 R143). -/
def Pattern.report (x : Pattern) : List Byte :=
  x.record.bytes ++ byte x.progress :: bytes2 (msLeft (x.window.getD 0))

/-- One line entry of QUERY_INPUTS (06 R144). -/
def Line.report (x : Line) (i : LineItems) : List Byte :=
  [byteOfBool i.enabled, lineLevelCode x.raw, acceptedCode x.accepted, byteOfBool (x.accepted == some i.activeLevel),
   byteOfBool x.timer.isSome]

/-- A QUERY_INPUTS reply, IN1 first (06 R144). -/
def State.inputsReport (s : State) : List Byte :=
  (List.range' 1 8).flatMap fun l => match s.line l with | none => [] | some x => x.report (s.lineItems l)

end Sys2Proof.Machine
end

