-- ==== Sys2Proof/WellFormed.lean ====
section
/-! DEFINITION. Which commands can reach the part at all: the ranges that the spec gives a command's operands. A byte
that is out of range INSIDE a payload is not ill formed; the part answers it BAD_ARG (09 R173). -/

namespace Sys2Proof

/-- The request codes of 09 Table 9.3a. -/
def knownCodes : List Byte :=
  [0x01, 0x02, 0x03, 0x04, 0x05, 0x06, 0x07, 0x08, 0x09, 0x0A, 0x0B, 0x20, 0x21, 0x22,
   0x30, 0x31, 0x32, 0x33, 0x34, 0x40, 0x41, 0x50, 0x51, 0x52, 0x60, 0x61, 0x62, 0x63, 0x6F]

/-- A request frame's address byte is below 80h: 80h and above is another unit's reply (08 R163). -/
def Via.wf : Via → Bool
  | .link address => address.toNat < 0x80
  | .servicePort => true

/-- A payload has at most 60 bytes (08 R162, R167). -/
def payloadWf (payload : List Byte) : Bool := payload.length ≤ Config.payloadLimit

def requestWf (via : Via) (payload : List Byte) : Bool := via.wf && payloadWf payload

def playIdWf (id : Nat) : Bool := 1 ≤ id && id ≤ Config.playCount

def channelWf (c : Nat) : Bool := 1 ≤ c && c ≤ Config.channelCount

def lineWf (l : Nat) : Bool := 1 ≤ l && l ≤ Config.lineCount

def patternWf (k : Nat) : Bool := 1 ≤ k && k ≤ Config.patternCount

/-- A sample is a whole number of °C in -40..200 (05 R119). -/
def sampleWf (t : Int) : Bool := -40 ≤ t && t ≤ 200

/-- The commands that can reach the part. -/
def Instr.wf : Instr → Bool
  | .readStatus via payload | .readEvents via payload | .readConfig via payload | .readCue via payload
  | .listCues via payload | .findCue via payload | .listPlays via payload | .queryPlay via payload
  | .queryChannel via payload | .readPattern via payload | .queryInputs via payload
  | .writeCue via payload | .setTrim via payload | .retireCue via payload
  | .trigger via payload | .release via payload | .releaseAll via payload | .freeze via payload | .thaw via payload
  | .writePattern via payload | .clearFault via payload | .setConfig via payload | .save via payload
  | .snapshotResume via payload | .clearEvents via payload | .keepalive via payload | .fallbackExit via payload
  | .setServiceMode via payload | .reset via payload => requestWf via payload
  | .badRequest via code => via.wf && !knownCodes.contains code
  | .frameForAnotherUnit address => address != 0
  | .delayExpiry id | .rampStepExpiry id | .holdExpiry id | .fadeStepExpiry id => playIdWf id
  | .faultConditionChange c _ _ | .openLoadDetection c | .retryExpiry c | .goodRunExpiry c => channelWf c
  | .trip c cond => channelWf c && cond != .openLoad
  | .temperatureSample t => sampleWf t
  | .rawLevelChange l _ | .debounceExpiry l => lineWf l
  | .windowExpiry k => patternWf k
  | .linkGapExpiry | .linkByteError | .linkFrameCheckFailed | .replyStart | .replySent | .replyDropped
  | .spWriteStart _ | .spBadFrame | .spWriteAborted | .spRead _ _ | .watchdogExpiry | .saveCompletion | .saveFailure
  | .powerReset | .rstnLow | .rstnHigh | .imageLoadEnd | .entryToRunning | .powerLoss | .linkSyncByte => true

end Sys2Proof
end

