-- ==== Sys2Proof/Machine/Operands.lean ====
section
/-! DEFINITION. The payload layouts of 09 Table 9.4a: each reader answers the operands of a request, or none for a payload
that is malformed or out of range, which the part answers BAD_ARG (09 R173, R174, R175). -/

namespace Sys2Proof.Machine

/-! ## Enumerated bytes (09 R172) -/

def readCurve (b : Byte) : Option Curve :=
  match b.toNat with
  | 0 => some .linear
  | 1 => some .square
  | 2 => some .cube
  | 3 => some .switch
  | _ => none

/-- An end action with its parameter in range (01 R7). -/
def readEndAction (b parameter : Byte) : Option EndAction :=
  let n := parameter.toNat
  match b.toNat with
  | 0 => if n = 0 then some .sustain else none
  | 1 => if n = 0 then some .release else none
  | 2 => if n ≤ 15 then some (.repeating n) else none
  | 3 => if 1 ≤ n ∧ n ≤ 64 then some (.chain n) else none
  | _ => none

def readPolicy (b : Byte) : Option Policy :=
  match b.toNat with
  | 0 => some .restart
  | 1 => some .queue
  | 2 => some .ignore
  | _ => none

/-- A yes/no field holds 00h or 01h (09 R173). -/
def readBool (b : Byte) : Option Bool :=
  match b.toNat with
  | 0 => some false
  | 1 => some true
  | _ => none

def readUnit (b : Byte) : Option (Fin 8) := if h : b.toNat < 8 then some ⟨b.toNat, h⟩ else none

def readKind (b : Byte) : Option EventKind :=
  match b.toNat with
  | 0 => some .press
  | 1 => some .release
  | _ => none

def readAction (b : Byte) : Option PatternAction :=
  match b.toNat with
  | 0 => some .trigger
  | 1 => some .release
  | 2 => some .toggle
  | _ => none

def readLineLevel (b : Byte) : Option LineLevel :=
  match b.toNat with
  | 0 => some .low
  | 1 => some .high
  | _ => none

def readBaud (b : Byte) : Option Baud :=
  match b.toNat with
  | 0 => some .b19200
  | 1 => some .b38400
  | 2 => some .b57600
  | 3 => some .b115200
  | _ => none

def readWatchdogUnit (b : Byte) : Option WatchdogUnit :=
  match b.toNat with
  | 0 => some .second
  | 1 => some .minute
  | _ => none

def readStartPolicy (b : Byte) : Option StartPolicy :=
  match b.toNat with
  | 0 => some .dark
  | 1 => some .startCue
  | 2 => some .resumeSet
  | _ => none

def readServiceMode (b : Byte) : Option ServiceMode :=
  match b.toNat with
  | 0 => some .openMode
  | 1 => some .readOnly
  | 2 => some .silent
  | 3 => some .off
  | _ => none

def readDeglitch (b : Byte) : Option Deglitch :=
  match b.toNat with
  | 0 => some .us50
  | 1 => some .us100
  | 2 => some .us200
  | 3 => some .us400
  | _ => none

def readAveraging (b : Byte) : Option Averaging :=
  match b.toNat with
  | 4 => some .n4
  | 8 => some .n8
  | 16 => some .n16
  | 32 => some .n32
  | _ => none

def readDebounce (b : Byte) : Option Debounce :=
  match b.toNat with
  | 0 => some .ms0
  | 5 => some .ms5
  | 20 => some .ms20
  | 50 => some .ms50
  | _ => none

/-- A number in a range, both ends included. -/
def readRange (lo hi : Nat) (b : Byte) : Option Nat := if lo ≤ b.toNat ∧ b.toNat ≤ hi then some b.toNat else none

/-- Two bytes as an event set, bit 15 clear (09 R172, R173). -/
def readEventSet (hi lo : Byte) : Option EventSet := if hi.msb then none else some (hi ++ lo)

/-! ## Short payloads -/

/-- A layout with no payload (09 R173). -/
def readNothing : List Byte → Option Unit
  | [] => some ()
  | _ :: _ => none

/-- One number in a range. -/
def readOne (lo hi : Nat) : List Byte → Option Nat
  | [b] => readRange lo hi b
  | _ => none

/-- An optional number in a range, 1 when it is absent (01 R14, 02 R63). -/
def readFirst (hi : Nat) : List Byte → Option Nat
  | [] => some 1
  | [b] => readRange 1 hi b
  | _ => none

/-- QUERY_PLAY: an id and an optional first entry (02 R64). -/
def readQueryPlay : List Byte → Option (Nat × Nat)
  | [] => none
  | b :: rest =>
    match readRange 1 24 b, readFirst 16 rest with
    | some id, some first => some (id, first)
    | _, _ => none

/-- A character of a label is in 20h..7Eh (01 R6). -/
def printable (b : Byte) : Bool := 0x20 ≤ b.toNat && b.toNat ≤ 0x7E

/-- FIND_CUE: the label's bytes, 1 to 8 of them, all printable (01 R15). -/
def readLabel (bs : List Byte) : Option (List Byte) :=
  if 1 ≤ bs.length ∧ bs.length ≤ 8 ∧ bs.all printable then some bs else none

/-- SET_TRIM: slot, trim and an optional expected revision (01 R19). -/
def readSetTrim : List Byte → Option (Nat × Byte × Option Byte)
  | [n, trim] => (readRange 1 64 n).map fun n => (n, trim, none)
  | [n, trim, rev] => (readRange 1 64 n).map fun n => (n, trim, some rev)
  | _ => none

/-- RETIRE_CUE: slot and mode; the mode is GRACEFUL or not (01 R21). -/
def readRetire : List Byte → Option (Nat × Bool)
  | [n, mode] =>
    match readRange 1 64 n, readBool mode with
    | some n, some graceful => some (n, graceful)
    | _, _ => none
  | _ => none

/-- TRIGGER: cue and an optional priority override 0..15 (02 R30). -/
def readTrigger : List Byte → Option (Nat × Option Nat)
  | [n] => (readRange 1 64 n).map fun n => (n, none)
  | [n, p] =>
    match readRange 1 64 n, readRange 0 15 p with
    | some n, some p => some (n, some p)
    | _, _ => none
  | _ => none

/-- CLEAR_FAULT: 1..16 channel numbers, each 1..16, none twice (05 R116). -/
def readChannels (bs : List Byte) : Option (List Nat) :=
  let cs := bs.map BitVec.toNat
  if 1 ≤ cs.length ∧ cs.length ≤ 16 ∧ cs.all channelWf ∧ cs.Nodup then some cs else none

/-- CLEAR_EVENTS: an event set (11 R188). -/
def readEvents : List Byte → Option EventSet
  | [hi, lo] => readEventSet hi lo
  | _ => none

/-- SET_SERVICE_MODE: a mode 00h..03h (08 R170). -/
def readMode : List Byte → Option ServiceMode
  | [b] => readServiceMode b
  | _ => none

/-- FALLBACK_EXIT: exactly one token (07 R158). -/
def readToken : List Byte → Option Byte
  | [b] => some b
  | _ => none

/-! ## WRITE_CUE (09 R174, 01 R4 to R8) -/

/-- The operands of WRITE_CUE. An absent trim is stored as 255 (01 R8). -/
structure CueWrite where
  slot : Nat
  expected : Option Byte
  record : CueRecord
  deriving DecidableEq, Repr

/-- `n` channel entries, strictly ascending above `last`, each 1..16 (01 R5), with the bytes that follow them. -/
def readEntries : Nat → Nat → List Byte → Option (List ChannelEntry × List Byte)
  | 0, _, rest => some ([], rest)
  | n + 1, last, c :: scale :: rest =>
    if last < c.toNat ∧ c.toNat ≤ 16 then
      (readEntries n c.toNat rest).map fun r => (⟨c.toNat, scale⟩ :: r.1, r.2)
    else none
  | _ + 1, _, _ => none

/-- The trim that ends a record: one byte when it is announced, nothing when it is not (01 R8, 09 R174). -/
def readTrim (announced : Bool) (rest : List Byte) : Option Byte :=
  match announced, rest with
  | true, [b] => some b
  | false, [] => some 255
  | _, _ => none

/-- A cue record whose label is `label`, from the byte after it; `trimmed` tells whether a trim is announced (09 section 9.4). -/
def readRecordBody (label : List Byte) (trimmed : Bool) : List Byte → Option CueRecord
  | prio :: curve :: start :: stop :: period :: dc :: du :: hc :: hu :: ea :: ep :: pol :: fade :: n :: rest => do
    let priority ← readRange 0 15 prio
    let curve ← readCurve curve
    let delayUnit ← readUnit du
    let holdUnit ← readUnit hu
    let endAction ← readEndAction ea ep
    let policy ← readPolicy pol
    let count ← readRange 1 16 n
    let entries ← readEntries count 0 rest
    let trim ← readTrim trimmed entries.2
    if period = 0 then none
    else
      some
        { label := label, priority := priority, channels := entries.1, curve := curve, startStep := start,
          stopStep := stop, stepPeriod := period, delay := ⟨dc, delayUnit⟩, hold := ⟨hc, holdUnit⟩,
          endAction := endAction, policy := policy, releaseFade := fade, trim := trim }
  | _ => none

/-- A cue record from its label length byte on (09 R174). -/
def readRecord (trimmed : Bool) : List Byte → Option CueRecord
  | [] => none
  | len :: rest =>
    let label := rest.take len.toNat
    if len.toNat ≤ 8 ∧ label.length = len.toNat ∧ label.all printable then
      readRecordBody label trimmed (rest.drop len.toNat)
    else none

/-- Whether a bit of the flags byte is set (09 R174). -/
def flagBit (flags : Byte) (i : Nat) : Bool := flags.getLsbD i

/-- WRITE_CUE: slot, flags, expected revision if bit 0 is set, record, trim if bit 1 is set (09 R174). -/
def readWriteCue : List Byte → Option CueWrite
  | n :: flags :: rest => do
    let slot ← readRange 1 64 n
    if 3 < flags.toNat then none
    else if flagBit flags 0 then
      match rest with
      | [] => none
      | rev :: body => (readRecord (flagBit flags 1) body).map fun r => ⟨slot, some rev, r⟩
    else (readRecord (flagBit flags 1) rest).map fun r => ⟨slot, none, r⟩
  | _ => none

/-! ## WRITE_PATTERN (06 R130, R141) -/

/-- `n` pattern elements, each a line 1..8 and a kind, with the bytes that follow them. -/
def readElements : Nat → List Byte → Option (List InputEvent × List Byte)
  | 0, rest => some ([], rest)
  | n + 1, l :: kind :: rest =>
    match readRange 1 8 l, readKind kind, readElements n rest with
    | some l, some kind, some r => some (⟨l, kind⟩ :: r.1, r.2)
    | _, _, _ => none
  | _ + 1, _ => none

/-- WRITE_PATTERN: a pattern 1..16 and a valid record (06 R130). -/
def readWritePattern : List Byte → Option (Nat × PatternRecord)
  | k :: enabled :: n :: rest => do
    let k ← readRange 1 16 k
    let enabled ← readBool enabled
    let count ← readRange 1 6 n
    let elements ← readElements count rest
    match elements.2 with
    | [w, a, c] =>
      let window ← readRange 2 200 w
      let action ← readAction a
      let cue ← readRange 1 64 c
      some (k, ⟨enabled, elements.1, window, action, cue⟩)
    | _ => none
  | _ => none

/-! ## SET_CONFIG (09 R175) -/

/-- A configuration entry with its value in range. A line is 1..8. -/
inductive ConfigEntry where
  | unitAddress (v : Nat)
  | groups (v : List Nat)
  | baud (v : Baud)
  | watchdogPeriod (v : Byte)
  | watchdogUnit (v : WatchdogUnit)
  | fallbackCue (v : Nat)
  | startPolicy (v : StartPolicy)
  | startCue (v : Nat)
  | settleDelay (v : Nat)
  | serviceMode (v : ServiceMode)
  | maxRetries (v : Nat)
  | retryDelay (v : Byte)
  | goodRunTime (v : Byte)
  | deglitch (v : Deglitch)
  | averaging (v : Averaging)
  | warn (v : Nat)
  | shutdown (v : Nat)
  | hysteresis (v : Nat)
  | derate (v : Nat)
  | lineEnabled (l : Nat) (v : Bool)
  | lineActive (l : Nat) (v : LineLevel)
  | lineDebounce (l : Nat) (v : Debounce)
  | attentionMask (v : EventSet)
  deriving DecidableEq, Repr

/-- The group list entry: its count 0..4, then that many addresses 64..95, none twice (08 R161, 09 Table 9.8). -/
def readGroups : List Byte → Option (ConfigEntry × List Byte)
  | [] => none
  | n :: rest =>
    let addresses := (rest.take n.toNat).map BitVec.toNat
    if n.toNat ≤ 4 ∧ addresses.length = n.toNat ∧ (addresses.all fun a => 64 ≤ a && a ≤ 95) ∧ addresses.Nodup then
      some (.groups addresses, rest.drop n.toNat)
    else none

/-- An item of one byte, by its code (09 Table 9.8); none for an unknown code or a value out of range. -/
def readItem (code : Nat) (b : Byte) : Option ConfigEntry :=
  if code = 0x01 then (readRange 1 63 b).map .unitAddress
  else if code = 0x03 then (readBaud b).map .baud
  else if code = 0x10 then some (.watchdogPeriod b)
  else if code = 0x11 then (readWatchdogUnit b).map .watchdogUnit
  else if code = 0x12 then (readRange 0 64 b).map .fallbackCue
  else if code = 0x20 then (readStartPolicy b).map .startPolicy
  else if code = 0x21 then (readRange 0 64 b).map .startCue
  else if code = 0x22 then (readRange 0 20 b).map .settleDelay
  else if code = 0x23 then (readServiceMode b).map .serviceMode
  else if code = 0x30 then (readRange 0 7 b).map .maxRetries
  else if code = 0x31 then if b = 0 then none else some (.retryDelay b)
  else if code = 0x32 then some (.goodRunTime b)
  else if code = 0x33 then (readDeglitch b).map .deglitch
  else if code = 0x38 then (readAveraging b).map .averaging
  else if code = 0x39 then (readRange 90 140 b).map .warn
  else if code = 0x3A then (readRange 110 160 b).map .shutdown
  else if code = 0x3B then (readRange 5 20 b).map .hysteresis
  else if code = 0x3C then (readRange 64 255 b).map .derate
  else if 0x40 ≤ code ∧ code ≤ 0x47 then (readBool b).map (.lineEnabled (code - 0x3F))
  else if 0x48 ≤ code ∧ code ≤ 0x4F then (readLineLevel b).map (.lineActive (code - 0x47))
  else if 0x50 ≤ code ∧ code ≤ 0x57 then (readDebounce b).map (.lineDebounce (code - 0x4F))
  else none

/-- One entry from its item code on, with the bytes that follow it (09 R175). -/
def readEntry : List Byte → Option (ConfigEntry × List Byte)
  | [] => none
  | code :: rest =>
    if code.toNat = 0x02 then readGroups rest
    else if code.toNat = 0x60 then
      match rest with
      | hi :: lo :: more => (readEventSet hi lo).map fun v => (.attentionMask v, more)
      | _ => none
    else
      match rest with
      | b :: more => (readItem code.toNat b).map fun e => (e, more)
      | [] => none

/-- The code of an entry's item (09 Table 9.8). -/
def ConfigEntry.code : ConfigEntry → Nat
  | .unitAddress _ => 0x01
  | .groups _ => 0x02
  | .baud _ => 0x03
  | .watchdogPeriod _ => 0x10
  | .watchdogUnit _ => 0x11
  | .fallbackCue _ => 0x12
  | .startPolicy _ => 0x20
  | .startCue _ => 0x21
  | .settleDelay _ => 0x22
  | .serviceMode _ => 0x23
  | .maxRetries _ => 0x30
  | .retryDelay _ => 0x31
  | .goodRunTime _ => 0x32
  | .deglitch _ => 0x33
  | .averaging _ => 0x38
  | .warn _ => 0x39
  | .shutdown _ => 0x3A
  | .hysteresis _ => 0x3B
  | .derate _ => 0x3C
  | .lineEnabled l _ => 0x3F + l
  | .lineActive l _ => 0x47 + l
  | .lineDebounce l _ => 0x4F + l
  | .attentionMask _ => 0x60

/-- Entries until the bytes are used up; `fuel` is at least the number of bytes (each entry takes at least two). -/
def readEntriesList : Nat → List Byte → Option (List ConfigEntry)
  | _, [] => some []
  | 0, _ :: _ => none
  | fuel + 1, bs =>
    match readEntry bs with
    | none => none
    | some (e, rest) => (readEntriesList fuel rest).map (e :: ·)

/-- One entry applied to the items (09 R175). -/
def Items.apply (i : Items) : ConfigEntry → Items
  | .unitAddress v => { i with unitAddress := v }
  | .groups v => { i with groups := v }
  | .baud v => { i with baud := v }
  | .watchdogPeriod v => { i with watchdogPeriod := v }
  | .watchdogUnit v => { i with watchdogUnit := v }
  | .fallbackCue v => { i with fallbackCue := v }
  | .startPolicy v => { i with startPolicy := v }
  | .startCue v => { i with startCue := v }
  | .settleDelay v => { i with settleDelay := v }
  | .serviceMode v => { i with serviceMode := v }
  | .maxRetries v => { i with maxRetries := v }
  | .retryDelay v => { i with retryDelay := v }
  | .goodRunTime v => { i with goodRunTime := v }
  | .deglitch v => { i with deglitch := v }
  | .averaging v => { i with averaging := v }
  | .warn v => { i with warn := v }
  | .shutdown v => { i with shutdown := v }
  | .hysteresis v => { i with hysteresis := v }
  | .derate v => { i with derate := v }
  | .lineEnabled l v =>
    { i with lines := put1 i.lines l { (at1 i.lines l).getD LineItems.factory with enabled := v } }
  | .lineActive l v =>
    { i with lines := put1 i.lines l { (at1 i.lines l).getD LineItems.factory with activeLevel := v } }
  | .lineDebounce l v =>
    { i with lines := put1 i.lines l { (at1 i.lines l).getD LineItems.factory with debounce := v } }
  | .attentionMask v => { i with attentionMask := v }

/-- Every entry applied in one action (09 R175). -/
def Items.applyAll (i : Items) (es : List ConfigEntry) : Items := es.foldl Items.apply i

/-- The shutdown threshold is not below the warn threshold + 10 (05 R122). -/
def Items.thresholdsOk (i : Items) : Bool := i.warn + 10 ≤ i.shutdown

/-- SET_CONFIG: one or more entries, no item twice, and thresholds that agree once they are applied (09 R175, 05 R122). -/
def readSetConfig (i : Items) (bs : List Byte) : Option (List ConfigEntry) :=
  match readEntriesList bs.length bs with
  | none => none
  | some es =>
    if es ≠ [] ∧ (es.map ConfigEntry.code).Nodup ∧ (i.applyAll es).thresholdsOk then some es else none

end Sys2Proof.Machine
end

