-- ==== Sys2Proof/Machine/Ports.lean ====
section
/-! DEFINITION. The Port Controller: how a request reaches its block and how its reply leaves (chapter 08). -/

namespace Sys2Proof.Machine

/-- How a request that is taken came: unicast, or in a group or broadcast frame, or on the Service Port (08 R164, R166, R167). -/
inductive Origin where
  | unicast
  | group
  | servicePort
  deriving DecidableEq, Repr

/-- The port an origin belongs to (10 R178). -/
def Origin.port : Origin → Port
  | .unicast | .group => .buildingLink
  | .servicePort => .servicePort

/-- The source of a play that a TRIGGER request admits or restarts (02 R29). -/
def Origin.source : Origin → Source
  | .unicast | .group => .buildingLink
  | .servicePort => .servicePort

/-- What the owning block answers: the state after the request, its reply, and what waits for that reply. -/
structure Answer where
  state : State
  reply : Reply
  deferred : Deferred := ⟨none, false⟩

/-- A refusal: nothing changes. -/
def State.refuse (s : State) (st : Status) : Answer := { state := s, reply := Reply.bare st }

/-! ## The Building Link -/

/-- The line is heard: the part is not held in reset and is not sending a reply itself (10 R182, 08 R165). -/
def State.lineHeard (s : State) : Bool :=
  s.stage != .held &&
    match s.linkReply with
    | .sending _ _ => false
    | .idle | .waiting _ _ => true

/-- The effects that waited for a reply are taken: the unit address, then the reset (08 R165). -/
def State.releaseReply (s : State) (d : Deferred) : State :=
  let t := { s with linkReply := .idle, linkAddress := d.address.getD s.linkAddress }
  if d.reset then t.partReset .request else t

/-- A start bit arrives: a waiting reply is dropped and its effects are taken (08 R165). -/
def State.startBit (s : State) : State :=
  match s.linkReply with
  | .waiting _ d => s.releaseReply d
  | .idle | .sending _ _ => s

/-- A frame with a good check sorted by its address byte; none for a frame that is ignored (08 R163). -/
def State.sortFrame (s : State) (address : Byte) : Option Origin :=
  if address.toNat = s.linkAddress then some .unicast
  else if address.toNat = 0 ∨ s.config.groups.contains address.toNat then some .group
  else none

/-- A whole frame with a good check arrives: the receiver hunts again, and a frame addressed to the unit refreshes the
watchdog before its request is acted on (08 R162, R163, 07 R148). -/
def State.receiveFrame (s : State) (address : Byte) : State × Option Origin :=
  if !s.lineHeard then (s, none)
  else
    let t := { s.startBit with receiver := .hunting }
    match t.sortFrame address with
    | none => (t, none)
    | some o => (t.startWatchdog, some o)

/-! ## The Service Port -/

/-- The mode that the port behaves in (08 R169). -/
def LiveMode.behaves : LiveMode → ServiceMode
  | .plain m => m
  | .offPending m => m

/-- The port acknowledges its address: it is not held in reset and behaves as OPEN or READ_ONLY (08 R169, 10 R182). -/
def State.spListens (s : State) : Bool :=
  s.stage != .held && (s.serviceMode.behaves == .openMode || s.serviceMode.behaves == .readOnly)

/-- The port acknowledges this target address now (08 R167, R169). -/
def State.acknowledges (s : State) (target : BitVec 7) : Bool := s.spListens && target == s.spAddress

/-- A start condition ends what is under way: an acknowledged write gets no reply, and a read is over (08 R167, R168). -/
def State.startCondition (s : State) : State :=
  { s with
    spWrite := .none
    spReading := none
    spReply := if s.spWrite = .acknowledged then .none else s.spReply }

/-- A write address byte: acknowledged, it discards a held reply and the pending reply is preparing (08 R168). -/
def State.startWrite (s : State) (target : BitVec 7) : State :=
  let t := s.startCondition
  if s.acknowledges target then { t with spAck := true, spReply := .preparing, spWrite := .acknowledged }
  else { t with spAck := false, spWrite := .refused }

/-- An acknowledged write ends. While the port behaves as SILENT or OFF it is not taken, and leaves no reply (08 R170). -/
def State.takeWrite (s : State) : State × Option Origin :=
  if s.spListens then ({ s with spWrite := .none }, some .servicePort)
  else ({ s with spWrite := .none, spReply := .none }, none)

/-- A write ends: one that is not yet under way is a whole write to the port's own address (log 10), and one whose address was
not acknowledged is not taken (08 R167). -/
def State.endWrite (s : State) : State × Option Origin :=
  let t := if s.spWrite = .none then s.startWrite s.spAddress else s
  if t.spWrite = .acknowledged then t.takeWrite else ({ t with spWrite := .none }, none)

/-! ## Taking a request -/

/-- A request arrives whole: the state in which its block takes it, and how it came, or none when it is not taken. -/
def State.receive (s : State) : Via → State × Option Origin
  | .link address => s.receiveFrame address
  | .servicePort => s.endWrite

/-- The classes that the port checks tell apart (08 R164, 09 Table 9.3a). -/
inductive RequestClass where
  | reading
  | other
  /-- FALLBACK_EXIT, SET_SERVICE_MODE and RESET, which are taken from the Building Link alone. -/
  | linkOnly
  /-- A code that is not in Table 9.3a. -/
  | unknown
  deriving DecidableEq, Repr

/-- The first port check that fails (08 R164). -/
def State.portCheck (s : State) (k : RequestClass) (o : Origin) : Option Status :=
  if !s.running then some .notReady
  else if k = .unknown then some .badRequest
  else if o = .servicePort ∧ s.serviceMode.behaves = .readOnly ∧ k ≠ .reading then some .refused
  else if o = .servicePort ∧ k = .linkOnly then some .wrongPort
  else none

/-- The answer leaves by the port the request came on: a unicast reply waits (08 R165), a group frame gets none (08 R166),
and the Service Port's reply becomes ready (08 R168). -/
def Answer.send (a : Answer) : Origin → State
  | .unicast => { a.state with linkReply := .waiting a.reply a.deferred }
  | .group => a.state
  | .servicePort => { a.state with spReply := .ready a.reply }

/-- A request taken: the port checks, then its block (08 R164). -/
def State.answer (s : State) (k : RequestClass) (o : Origin) (block : Origin → State → Answer) : Answer :=
  match s.portCheck k o with
  | some st => s.refuse st
  | none => block o s

/-- A request from its arrival to its answer. A reading request in a group or broadcast frame is ignored (08 R166). -/
def State.request (s : State) (k : RequestClass) (via : Via) (block : Origin → State → Answer) : State :=
  match s.receive via with
  | (t, none) => t
  | (t, some o) => if o = .group ∧ k = .reading then t else (t.answer k o block).send o

/-- The answer OK with a payload, the state as given. -/
def State.ok (s : State) (payload : List Byte) : Answer := { state := s, reply := ⟨.ok, payload⟩ }

/-- A reading request whose payload is read by `read`: BAD_ARG, or the block's answer (09 R173). -/
def readThen {α : Type} (operands : Option α) (act : α → State → Answer) (s : State) : Answer :=
  match operands with
  | none => s.refuse .badArg
  | some x => act x s

/-- An edit: BUSY while the store is SAVING, then BAD_ARG, then the block (01 R16, 06 R141, 09 R175). -/
def editThen {α : Type} (operands : Option α) (act : α → State → Answer) (s : State) : Answer :=
  if s.store ≠ .idle then s.refuse .busy else readThen operands act s

/-- The outcome of a command: it always leads to a next state. -/
def done (s : State) : Host.Outcome State Fault Refusal := .next s

end Sys2Proof.Machine
end

