-- ==== Sys2Proof/Machine/ChannelEvents.lean ====
section
/-! DEFINITION. What the output stages and the die temperature do to the part, and the timers of a channel (chapter 05). An
event whose condition does not stand has no effect (log 1). -/

namespace Sys2Proof.Machine

/-- The event that takes a channel's record from `x` to `f x`, if the channel exists. -/
def State.onChannel (s : State) (c : Nat) (act : Channel → State) : State :=
  match s.channel c with
  | none => s
  | some x => act x

/-- A stage begins or stops reporting a condition; the measurement follows at once (05 R103, R104). -/
def State.conditionChange (s : State) (c : Nat) (cond : FaultCondition) (present : Bool) : State :=
  s.onChannel c fun x => (s.setChannel c (x.setSense cond { x.sense cond with reported := present })).drive

/-- A condition is detected: the channel is NORMAL, and the condition has persisted for the deglitch time in force (05 R104,
R106, R108). -/
def Channel.detects (x : Channel) (i : Items) (cond : FaultCondition) : Bool :=
  x.state == .normal && (x.sense cond).persistence.any (i.deglitch.us ≤ ·)

/-- A detection of SHORT or OVERCURRENT: a trip (05 R106). -/
def State.takeTrip (s : State) (c : Nat) (cond : FaultCondition) : State :=
  s.onChannel c fun x =>
    if cond ≠ .openLoad ∧ x.detects s.config cond then
      ((s.setChannel c (x.tripped s.config)).raise (x.tripEvent s.config)).drive
    else s

/-- A detection of OPEN_LOAD: the flag is set, and the condition is not sensed any more (05 R108). -/
def State.takeOpenLoad (s : State) (c : Nat) : State :=
  s.onChannel c fun x =>
    if x.detects s.config .openLoad then ((s.setChannel c { x with openLoadFlag := true }).raise .openLoad).drive else s

/-- The retry timer of a TRIPPED channel has run out (05 R109, R118). -/
def Channel.retryDue (x : Channel) : Bool := x.state == .tripped && x.retryTimer == some 0

/-- The good-run timer has reached the good-run time in force (05 R114, R118). -/
def Channel.goodRunDue (x : Channel) (i : Items) : Bool := x.goodRun.any (i.goodRunMicros ≤ ·)

/-- The retry timer of a TRIPPED channel expires (05 R109). -/
def State.retryExpiry (s : State) (c : Nat) : State :=
  s.onChannel c fun x =>
    if x.retryDue then (s.setChannel c x.retried).drive else s

/-- The good-run timer expires: the count is cleared and the timer stops (05 R114). -/
def State.goodRunExpiry (s : State) (c : Nat) : State :=
  s.onChannel c fun x =>
    if x.goodRunDue s.config then s.setChannel c { x with retryCount := 0, goodRun := none } else s

/-- A sample is taken while the part is not held in reset (05 R119). -/
def State.sample (s : State) (degrees : Int) : State :=
  if s.stage ≠ .held ∧ sampleWf degrees then (s.takeSample degrees).drive else s

def execFaultConditionChange (c : Nat) (cond : FaultCondition) (present : Bool) (s : State) :
    Host.Outcome State Fault Refusal := done (s.conditionChange c cond present)

def execTrip (c : Nat) (cond : FaultCondition) (s : State) : Host.Outcome State Fault Refusal := done (s.takeTrip c cond)

def execOpenLoadDetection (c : Nat) (s : State) : Host.Outcome State Fault Refusal := done (s.takeOpenLoad c)

def execRetryExpiry (c : Nat) (s : State) : Host.Outcome State Fault Refusal := done (s.retryExpiry c)

def execGoodRunExpiry (c : Nat) (s : State) : Host.Outcome State Fault Refusal := done (s.goodRunExpiry c)

def execTemperatureSample (degrees : Int) (s : State) : Host.Outcome State Fault Refusal := done (s.sample degrees)

end Sys2Proof.Machine
end

