-- ==== Sys2Proof/Machine/ControlRequests.lean ====
section
/-! DEFINITION. The remaining requests: patterns, faults, configuration, the store, events, the link and the reset. -/

namespace Sys2Proof.Machine

/-! ## Patterns and faults -/

/-- An accepted WRITE_PATTERN (06 R142). -/
def State.writePattern (w : Nat × PatternRecord) (s : State) : Answer := (s.setPattern w.1 (Pattern.idle w.2)).ok []

def State.writePatternBlock (payload : List Byte) (_ : Origin) (s : State) : Answer :=
  editThen (readWritePattern payload) State.writePattern s

/-- CLEAR_FAULT (05 R116). -/
def State.clearFaultBlock (payload : List Byte) (_ : Origin) (s : State) : Answer :=
  readThen (readChannels payload) (fun cs t => (t.clearFaults cs).ok []) s

/-! ## Configuration -/

/-- Whether the entries name an item, by its code (09 Table 9.8). -/
def touches (es : List ConfigEntry) (code : Nat) : Bool := es.any (·.code == code)

/-- Whether the entries name one of the three items of a line (06 R128). -/
def touchesLine (es : List ConfigEntry) (l : Nat) : Bool :=
  touches es (0x3F + l) || touches es (0x47 + l) || touches es (0x4F + l)

/-- A unit address given by a unicast frame waits for its reply; any other takes effect at once (08 R161). -/
def State.useAddress (s : State) (es : List ConfigEntry) (o : Origin) : State :=
  if touches es 0x01 ∧ o ≠ .unicast then { s with linkAddress := s.config.unitAddress } else s

/-- What waits for the reply to a SET_CONFIG (08 R161, R165). -/
def State.deferredAddress (s : State) (es : List ConfigEntry) (o : Origin) : Deferred :=
  ⟨if touches es 0x01 ∧ o = .unicast then some s.config.unitAddress else none, false⟩

/-- A change of the watchdog period or unit acts on the timer (07 R149). -/
def State.useWatchdog (s : State) (es : List ConfigEntry) : State :=
  if touches es 0x10 ∨ touches es 0x11 then s.resetWatchdog else s

/-- A change of the averaging empties the accumulator (05 R120). -/
def State.useAveraging (s : State) (es : List ConfigEntry) : State :=
  if touches es 0x38 then { s with thermal := s.thermal.emptied } else s

/-- A line whose items are set takes its raw level as accepted, or none when it is disabled (06 R128). -/
def State.useLines (s : State) (es : List ConfigEntry) : State :=
  { s with lines := mapBank1 (fun l x => if touchesLine es l then x.rebase (s.lineItems l).enabled else x) s.lines }

/-- A change of the fault deglitch time discards every persistence (05 R105). -/
def State.useDeglitch (s : State) (es : List ConfigEntry) : State :=
  if touches es 0x33 then s.discardPersistences else s

/-- A change of the good-run time acts on every good-run timer (05 R114). -/
def State.useGoodRun (s : State) (es : List ConfigEntry) : State :=
  if touches es 0x32 then s.restartGoodRuns else s

/-- Every entry applied in one action, each item with the effect of its owning rule (09 R175). -/
def State.applyConfig (s : State) (es : List ConfigEntry) (o : Origin) : State :=
  let t := { s with config := s.config.applyAll es }
  (((((t.useAddress es o).useWatchdog es).useAveraging es).useLines es).useDeglitch es).drive.useGoodRun es

def State.setConfig (o : Origin) (es : List ConfigEntry) (s : State) : Answer :=
  let t := s.applyConfig es o
  { state := t, reply := Reply.bare .ok, deferred := t.deferredAddress es o }

def State.setConfigBlock (payload : List Byte) (o : Origin) (s : State) : Answer :=
  editThen (readSetConfig s.config payload) (State.setConfig o) s

/-! ## The store -/

/-- An accepted SAVE: SAVING with its owner, the check word invalid, the image-valid flag no (10 R178, R179). -/
def State.startSave (s : State) (owner : Port) : State :=
  { s with store := .saving owner s.imageContents, checkGood := false, imageValid := false }

/-- SAVE: BAD_ARG for a payload, then BUSY (09 R173, 10 R178). -/
def State.saveBlock (payload : List Byte) (o : Origin) (s : State) : Answer :=
  readThen (readNothing payload) (fun _ t =>
    if t.store ≠ .idle then t.refuse .busy
    else { state := t.startSave o.port, reply := Reply.bare .accepted }) s

/-- The cues of the plays other than the fallback play that stand in SUSTAIN, ascending, the first 8 (10 R181). -/
def State.sustainedCues (s : State) : List Nat :=
  ((List.range' 1 64).filter fun n =>
    playIds.any fun id => (s.play id).any fun p => p.cue == n && p.source != .fallback && p.phase == .sustain).take
      Config.resumeLimit

/-- SNAPSHOT_RESUME: BAD_ARG for a payload, then BUSY (09 R173, 10 R181). -/
def State.snapshotResumeBlock (payload : List Byte) (_ : Origin) (s : State) : Answer :=
  readThen (readNothing payload) (fun _ t =>
    if t.store ≠ .idle then t.refuse .busy
    else State.ok { t with resumeSet := t.sustainedCues } [byte t.sustainedCues.length]) s

/-! ## Events and the link -/

/-- CLEAR_EVENTS (11 R188). -/
def State.clearEventsBlock (payload : List Byte) (_ : Origin) (s : State) : Answer :=
  readThen (readEvents payload) (fun named t => (t.clearFlags named).ok []) s

/-- KEEPALIVE does nothing beyond the refresh its frame makes (07 R148). -/
def State.keepaliveBlock (payload : List Byte) (_ : Origin) (s : State) : Answer :=
  readThen (readNothing payload) (fun _ t => t.ok []) s

/-- Checks 5 and 6 of FALLBACK_EXIT and its effect (07 R158, R159). -/
def State.fallbackExit (token : Byte) (s : State) : Answer :=
  if !s.fallbackOn then s.refuse .notInFallback
  else if token ≠ s.entryCount then s.refuse .badToken
  else s.exitFallback.drive.ok []

def State.fallbackExitBlock (payload : List Byte) (_ : Origin) (s : State) : Answer :=
  readThen (readToken payload) State.fallbackExit s

/-- A save owned by the Service Port is in progress (08 R170). -/
def State.spSaves (s : State) : Bool :=
  match s.store with
  | .saving .servicePort _ => true
  | .saving .buildingLink _ | .idle => false

/-- SET_SERVICE_MODE; OFF waits for the end of a save that the Service Port owns (08 R170). -/
def State.setServiceMode (mode : ServiceMode) (s : State) : Answer :=
  if mode = .off ∧ s.spSaves then
    { state := { s with serviceMode := .offPending s.serviceMode.behaves }, reply := Reply.bare .accepted }
  else (s.enterMode mode).ok []

def State.setServiceModeBlock (payload : List Byte) (_ : Origin) (s : State) : Answer :=
  readThen (readMode payload) State.setServiceMode s

/-- RESET: answered OK, the reset waiting for the unicast reply, or taken at once in a group frame (08 R164, R165, R166). -/
def State.resetRequest (o : Origin) (s : State) : Answer :=
  match o with
  | .unicast => { state := s, reply := Reply.bare .ok, deferred := ⟨none, true⟩ }
  | .group => (s.partReset .request).ok []
  | .servicePort => s.refuse .wrongPort

def State.resetBlock (payload : List Byte) (o : Origin) (s : State) : Answer :=
  readThen (readNothing payload) (fun _ => State.resetRequest o) s

/-- A request with an unknown code never reaches a block: the port checks answer BAD_REQUEST (08 R164). -/
def State.unknownBlock (_ : Origin) (s : State) : Answer := s.refuse .badRequest

/-! ## The meanings -/

def execWritePattern (via : Via) (payload : List Byte) (s : State) : Host.Outcome State Fault Refusal :=
  done (s.request .other via (State.writePatternBlock payload))

def execClearFault (via : Via) (payload : List Byte) (s : State) : Host.Outcome State Fault Refusal :=
  done (s.request .other via (State.clearFaultBlock payload))

def execSetConfig (via : Via) (payload : List Byte) (s : State) : Host.Outcome State Fault Refusal :=
  done (s.request .other via (State.setConfigBlock payload))

def execSave (via : Via) (payload : List Byte) (s : State) : Host.Outcome State Fault Refusal :=
  done (s.request .other via (State.saveBlock payload))

def execSnapshotResume (via : Via) (payload : List Byte) (s : State) : Host.Outcome State Fault Refusal :=
  done (s.request .other via (State.snapshotResumeBlock payload))

def execClearEvents (via : Via) (payload : List Byte) (s : State) : Host.Outcome State Fault Refusal :=
  done (s.request .other via (State.clearEventsBlock payload))

def execKeepalive (via : Via) (payload : List Byte) (s : State) : Host.Outcome State Fault Refusal :=
  done (s.request .other via (State.keepaliveBlock payload))

def execFallbackExit (via : Via) (payload : List Byte) (s : State) : Host.Outcome State Fault Refusal :=
  done (s.request .linkOnly via (State.fallbackExitBlock payload))

def execSetServiceMode (via : Via) (payload : List Byte) (s : State) : Host.Outcome State Fault Refusal :=
  done (s.request .linkOnly via (State.setServiceModeBlock payload))

def execReset (via : Via) (payload : List Byte) (s : State) : Host.Outcome State Fault Refusal :=
  done (s.request .linkOnly via (State.resetBlock payload))

/-- The code itself does not matter: it is one that Table 9.3a does not list (`Instr.wf`; log 19). -/
def execBadRequest (via : Via) (_code : Byte) (s : State) : Host.Outcome State Fault Refusal :=
  done (s.request .unknown via State.unknownBlock)

end Sys2Proof.Machine
end

