-- ==== Sys2Proof/Machine/CueRequests.lean ====
section
/-! DEFINITION. The requests that edit cues: WRITE_CUE, SET_TRIM and RETIRE_CUE (chapter 01). -/

namespace Sys2Proof.Machine

/-- A refusal with the one byte that tells what it ran into (01 R18). -/
def State.refuseWith (s : State) (st : Status) (b : Byte) : Answer := { state := s, reply := ⟨st, [b]⟩ }

/-- An expected revision is present and differs from the slot's (01 R10). -/
def staleRevision (expected : Option Byte) (revision : Byte) : Bool := expected.any (· != revision)

/-- Another HELD or RETIRING slot that holds the label, which is not empty (01 R6). -/
def State.labelHolder (s : State) (n : Nat) (label : List Byte) : Option Nat :=
  if label = [] then none else (s.slotsLabelled label).find? (· != n)

/-- A slot as an accepted WRITE_CUE leaves it (01 R17). -/
def Slot.written (x : Slot) (r : CueRecord) : Slot := { status := .held, revision := x.revision + 1, record := r }

/-- Checks 5 to 8 of WRITE_CUE and its effect (01 R16, R17, R18). -/
def State.writeCue (w : CueWrite) (s : State) : Answer :=
  let x := s.slot w.slot
  if x.status = .retiring then s.refuse .cueRetiring
  else
    match s.playOf w.slot with
    | some id => s.refuseWith .cueInUse (byte id)
    | none =>
      if staleRevision w.expected x.revision then s.refuseWith .stale x.revision
      else
        match s.labelHolder w.slot w.record.label with
        | some m => s.refuseWith .dupLabel (byte m)
        | none => (s.setSlot w.slot (x.written w.record)).ok [x.revision + 1]

def State.writeCueBlock (payload : List Byte) (_ : Origin) (s : State) : Answer :=
  editThen (readWriteCue payload) State.writeCue s

/-- A slot as an accepted SET_TRIM leaves it (01 R20). -/
def Slot.trimmed (x : Slot) (trim : Byte) : Slot :=
  { x with revision := x.revision + 1, record := { x.record with trim := trim } }

/-- Checks 5 to 7 of SET_TRIM and its effect; the outputs follow the new levels at once (01 R19, R20). -/
def State.setTrim (w : Nat × Byte × Option Byte) (s : State) : Answer :=
  let x := s.slot w.1
  match x.status with
  | .free => s.refuse .noCue
  | .retiring => s.refuse .cueRetiring
  | .held =>
    if staleRevision w.2.2 x.revision then s.refuseWith .stale x.revision
    else (s.setSlot w.1 (x.trimmed w.2.1)).drive.ok [x.revision + 1]

def State.setTrimBlock (payload : List Byte) (_ : Origin) (s : State) : Answer :=
  editThen (readSetTrim payload) State.setTrim s

/-- Cue n is protected as the fallback cue: it is configured, or the fallback play in record 24 runs it (01 R22). -/
def State.cueProtected (s : State) (n : Nat) : Bool :=
  s.config.fallbackCue == n || (s.play Config.fallbackId).any fun p => p.source == .fallback && p.cue == n

/-- A play of cue n, if it exists, ends, and then the slot becomes FREE (01 R23). -/
def State.retireNow (s : State) (n : Nat) : State :=
  let t := match s.playOf n with
    | none => s
    | some id => s.endPlay id
  t.setSlot n (t.slot n).freed

/-- The play of a slot that becomes RETIRING: its pending restart is cleared, and in SUSTAIN it is released (01 R24, 02 R61). -/
def State.runDown (s : State) (id : Nat) : State :=
  let t := s.clearPending id
  match t.play id with
  | none => t
  | some p => if p.phase = .sustain then t.releasePlay id else t

/-- A graceful retire: FREE at once without a play, else RETIRING with its play running down (01 R24). -/
def State.retireGracefully (s : State) (n : Nat) : State :=
  match s.playOf n with
  | none => s.setSlot n (s.slot n).freed
  | some id => (s.setSlot n { s.slot n with status := .retiring }).runDown id

/-- Checks 5 to 7 of RETIRE_CUE and its effect (01 R21 to R24). -/
def State.retireCue (w : Nat × Bool) (s : State) : Answer :=
  match (s.slot w.1).status with
  | .free => s.refuse .noCue
  | .retiring => s.refuse .cueRetiring
  | .held =>
    if s.cueProtected w.1 then s.refuse .cueProtected
    else (if w.2 then s.retireGracefully w.1 else s.retireNow w.1).drive.ok []

def State.retireCueBlock (payload : List Byte) (_ : Origin) (s : State) : Answer :=
  editThen (readRetire payload) State.retireCue s

def execWriteCue (via : Via) (payload : List Byte) (s : State) : Host.Outcome State Fault Refusal :=
  done (s.request .other via (State.writeCueBlock payload))

def execSetTrim (via : Via) (payload : List Byte) (s : State) : Host.Outcome State Fault Refusal :=
  done (s.request .other via (State.setTrimBlock payload))

def execRetireCue (via : Via) (payload : List Byte) (s : State) : Host.Outcome State Fault Refusal :=
  done (s.request .other via (State.retireCueBlock payload))

end Sys2Proof.Machine
end

