-- ==== Sys2Proof/Machine/InputEvents.lean ====
section
/-! DEFINITION. The events of the input lines and of the pattern windows (chapter 06). An event whose condition does not
stand has no effect (log 1). -/

namespace Sys2Proof.Machine

/-- A line is watched while the part is RUNNING and the line is enabled (06 R126, R127). -/
def State.watches (s : State) (l : Nat) : Bool := s.running && (s.lineItems l).enabled

/-- The raw level of a line becomes `level` (06 R126, R127). -/
def State.rawChange (s : State) (l : Nat) (level : LineLevel) : State :=
  match s.line l with
  | none => s
  | some x =>
    if x.raw = level then s
    else if s.watches l then s.watchRaw l { x with raw := level }
    else s.setLine l { x with raw := level }

/-- The debounce timer of a line expires, when it has run out; one that was started afresh before has not (06 R127). -/
def State.debounceExpiry (s : State) (l : Nat) : State :=
  match s.line l with
  | none => s
  | some x => if s.watches l ∧ x.timer = some 0 then s.acceptRaw l x else s

/-- The window timer of a pattern expires, when it has run out; one that was restarted before has not (06 R133, R135). -/
def State.windowExpiry (s : State) (k : Nat) : State :=
  match s.pattern k with
  | none => s
  | some x => if x.window = some 0 then s.setPattern k x.clear else s

def execRawLevelChange (l : Nat) (level : LineLevel) (s : State) : Host.Outcome State Fault Refusal :=
  done (s.rawChange l level)

def execDebounceExpiry (l : Nat) (s : State) : Host.Outcome State Fault Refusal := done (s.debounceExpiry l)

def execWindowExpiry (k : Nat) (s : State) : Host.Outcome State Fault Refusal := done (s.windowExpiry k)

end Sys2Proof.Machine
end

