-- ==== Sys2Proof/Machine/PlayEvents.lean ====
section
/-! DEFINITION. The expiries of play timers and of the link watchdog (chapters 02 and 07). An expiry whose timer has not run out
has no effect (log 1): a timer that was loaded again before its expiry was taken does not expire (02 R36, R58, 07 R150). -/

namespace Sys2Proof.Machine

/-- The play whose timer has run out: it stands at 0, and the Play Engine is not frozen (02 R36, R37, R59). -/
def State.expiring (s : State) (id : Nat) : Option Play :=
  if s.frozen then none else (s.play id).filter (·.timer == 0)

/-- The end of DELAY: RAMP at the same step, with one step period loaded (02 R38). -/
def State.delayEnd (s : State) (id : Nat) (p : Play) : State :=
  s.setPlay id (some { p with phase := .ramp, timer := (s.recordOf p).stepPeriod.toNat })

def State.delayExpiry (s : State) (id : Nat) : State :=
  match s.expiring id with
  | none => s
  | some p => if p.phase = .delay then (s.delayEnd id p).drive else s

def State.rampStepExpiry (s : State) (id : Nat) : State :=
  match s.expiring id with
  | none => s
  | some p => if p.phase = .ramp then (s.rampStep id p).drive else s

/-- The end of HOLD takes the end action (02 R40). -/
def State.holdExpiry (s : State) (id : Nat) : State :=
  match s.expiring id with
  | none => s
  | some p => if p.phase = .hold then (s.endAction id p).drive else s

def State.fadeStepExpiry (s : State) (id : Nat) : State :=
  match s.expiring id with
  | none => s
  | some p =>
    match p.phase with
    | .fadeout origins done => (s.fadeStep id p origins done).drive
    | .delay | .ramp | .hold | .sustain => s

/-- The watchdog expires when its timer is at 0; a timer that was restarted or stopped before does not expire (07 R147, R150,
R151). -/
def State.watchdogExpiry (s : State) : State := if s.watchdog = some 0 then s.enterFallback.drive else s

def execDelayExpiry (id : Nat) (s : State) : Host.Outcome State Fault Refusal := done (s.delayExpiry id)

def execRampStepExpiry (id : Nat) (s : State) : Host.Outcome State Fault Refusal := done (s.rampStepExpiry id)

def execHoldExpiry (id : Nat) (s : State) : Host.Outcome State Fault Refusal := done (s.holdExpiry id)

def execFadeStepExpiry (id : Nat) (s : State) : Host.Outcome State Fault Refusal := done (s.fadeStepExpiry id)

def execWatchdogExpiry (s : State) : Host.Outcome State Fault Refusal := done s.watchdogExpiry

end Sys2Proof.Machine
end

