-- ==== Sys2Proof/Machine/PlayRequests.lean ====
section
/-! DEFINITION. The requests on plays: TRIGGER, RELEASE, RELEASE_ALL, FREEZE and THAW (chapter 02). -/

namespace Sys2Proof.Machine

/-- The reply to a unicast TRIGGER (02 R35). -/
def Outcome.reply : Outcome → Reply
  | .ok id => ⟨.ok, [byte id]⟩
  | .ignored id => ⟨.ignored, [byte id]⟩
  | .refused reason _ => Reply.bare reason

/-- The outputs follow a trigger that acted; an ignored or refused one changed no level (02 R30, R33, 05 R102). -/
def State.driveAfter (s : State) : Outcome → State
  | .ok _ => s.drive
  | .ignored _ => s
  | .refused _ _ => s

/-- TRIGGER from check 4 on; in a group or broadcast frame a refusal raises TRIGGER_REFUSED (02 R30, R35). -/
def State.triggerRequest (o : Origin) (w : Nat × Option Nat) (s : State) : Answer :=
  let r := s.triggerFrom4 w.1 o.source w.2
  let t := if o = .group then r.1.reportOutcome w.1 .buildingLink r.2 else r.1
  { state := t.driveAfter r.2, reply := r.2.reply }

def State.triggerBlock (payload : List Byte) (o : Origin) (s : State) : Answer :=
  readThen (readTrigger payload) (State.triggerRequest o) s

/-- Checks 4 and 5 of RELEASE and its effect (02 R56). -/
def State.releaseRequest (n : Nat) (s : State) : Answer :=
  match s.playOf n with
  | none => s.refuse .noPlay
  | some id =>
    if (s.play id).any (·.source == .fallback) then s.refuse .cueProtected
    else (s.requestRelease id).drive.ok [byte id]

def State.releaseBlock (payload : List Byte) (_ : Origin) (s : State) : Answer :=
  readThen (readOne 1 64 payload) State.releaseRequest s

/-- The plays that RELEASE_ALL(p) acts on, by ascending id (02 R57). -/
def State.playsUpTo (s : State) (p : Nat) : List Nat :=
  playIds.filter fun id => (s.play id).any fun x => x.source != .fallback && x.priority ≤ p

def State.releaseAll (p : Nat) (s : State) : Answer :=
  ((s.playsUpTo p).foldl State.requestRelease s).drive.ok [byte (s.playsUpTo p).length]

def State.releaseAllBlock (payload : List Byte) (_ : Origin) (s : State) : Answer :=
  readThen (readOne 0 15 payload) State.releaseAll s

/-- FREEZE (02 R59). -/
def State.freezeBlock (payload : List Byte) (_ : Origin) (s : State) : Answer :=
  readThen (readNothing payload) (fun _ t => State.ok { t with frozen := true } []) s

/-- THAW (02 R59). -/
def State.thawBlock (payload : List Byte) (_ : Origin) (s : State) : Answer :=
  readThen (readNothing payload) (fun _ t => State.ok { t with frozen := false } []) s

def execTrigger (via : Via) (payload : List Byte) (s : State) : Host.Outcome State Fault Refusal :=
  done (s.request .other via (State.triggerBlock payload))

def execRelease (via : Via) (payload : List Byte) (s : State) : Host.Outcome State Fault Refusal :=
  done (s.request .other via (State.releaseBlock payload))

def execReleaseAll (via : Via) (payload : List Byte) (s : State) : Host.Outcome State Fault Refusal :=
  done (s.request .other via (State.releaseAllBlock payload))

def execFreeze (via : Via) (payload : List Byte) (s : State) : Host.Outcome State Fault Refusal :=
  done (s.request .other via (State.freezeBlock payload))

def execThaw (via : Via) (payload : List Byte) (s : State) : Host.Outcome State Fault Refusal :=
  done (s.request .other via (State.thawBlock payload))

end Sys2Proof.Machine
end

