-- ==== Sys2Proof/Machine/PortEvents.lean ====
section
/-! DEFINITION. The events of the Building Link receiver, of the unicast reply and of the Service Port (chapter 08). An event
whose condition does not stand has no effect (log 1). -/

namespace Sys2Proof.Machine

/-! ## The Building Link -/

/-- A frame in progress is abandoned: LINK_ERROR, and the receiver hunts again (08 R162). -/
def State.abandonFrame (s : State) : State := State.raise { s with receiver := .hunting } .linkError

/-- A start bit on the line; after a dropped reply the receiver takes its byte as the start of a new frame, unless the drop
began a reset (08 R165; log 9). -/
def State.startBitReceiving (s : State) : State :=
  match s.linkReply with
  | .waiting _ d => if d.reset then s.releaseReply d else { s.releaseReply d with receiver := .receiving }
  | .idle | .sending _ _ => s

/-- A 5Ah byte: a hunting receiver starts receiving (08 R162). Where its start bit drops a reply with a reset waiting, the byte
itself arrives after that reset, and the receiver takes it as a sync byte (log 9). -/
def State.syncByte (s : State) : State := { s.startBit with receiver := .receiving }

/-- A gap of more than 4 ms inside a frame (08 R162). -/
def State.gapExpiry (s : State) : State := if s.receiver = .receiving then s.abandonFrame else s

/-- A byte with a framing error, or a length byte above 60 (08 R160, R162). -/
def State.byteError (s : State) : State :=
  let t := s.startBitReceiving
  if t.receiver = .receiving then t.abandonFrame else t

/-- A complete frame whose CRC-8 fails (08 R163). -/
def State.badCheck (s : State) : State := s.startBit.abandonFrame

/-- A good frame that the unit does not answer to is ignored: the receiver hunts again (08 R163). -/
def State.otherFrame (s : State) (address : Byte) : State :=
  let t := { s.startBit with receiver := .hunting }
  if (t.sortFrame address).isSome then s else t

def execLinkSyncByte (s : State) : Host.Outcome State Fault Refusal :=
  done (if s.lineHeard then s.syncByte else s)

def execLinkGapExpiry (s : State) : Host.Outcome State Fault Refusal :=
  done (if s.lineHeard then s.gapExpiry else s)

def execLinkByteError (s : State) : Host.Outcome State Fault Refusal :=
  done (if s.lineHeard then s.byteError else s)

def execLinkFrameCheckFailed (s : State) : Host.Outcome State Fault Refusal :=
  done (if s.lineHeard then s.badCheck else s)

def execFrameForAnotherUnit (address : Byte) (s : State) : Host.Outcome State Fault Refusal :=
  done (if s.lineHeard then s.otherFrame address else s)

/-! ## The unicast reply -/

/-- The unit begins to send the waiting reply, from the address in force (08 R165, 09 section 9.1). -/
def State.startReply (s : State) : State :=
  match s.linkReply with
  | .waiting r d => { s with linkReply := .sending (r.frame s.linkAddress) d }
  | .idle | .sending _ _ => s

/-- The reply has been sent: its effects are taken and the receiver hunts again (08 R165). -/
def State.finishReply (s : State) : State :=
  match s.linkReply with
  | .sending _ d => State.releaseReply { s with receiver := .hunting } d
  | .idle | .waiting _ _ => s

def execReplyStart (s : State) : Host.Outcome State Fault Refusal := done s.startReply

def execReplySent (s : State) : Host.Outcome State Fault Refusal := done s.finishReply

def execReplyDropped (s : State) : Host.Outcome State Fault Refusal := done s.startBitReceiving

/-! ## The Service Port -/

/-- A write with a wrong length or a bad CRC-8 is not taken; its reply is BAD_FRAME (08 R167). -/
def State.badWrite (s : State) : State :=
  match s.endWrite with
  | (t, none) => t
  | (t, some _) => { t with spReply := .ready (Reply.bare .badFrame) }

/-- A write that ends at a start condition is not taken and gets no reply (08 R168). -/
def State.abortWrite (s : State) : State :=
  match s.endWrite with
  | (t, none) => t
  | (t, some _) => { t with spReply := .none }

/-- The port supplies what the controller takes of what a read has still to supply (08 R168). The read is over where the
controller does not acknowledge the last byte, or a stop condition follows it (08 R167). -/
def State.supply (s : State) (left : List Byte) (taken : ReadSpan) : State :=
  { s with
    spOut := readBytes left taken.count
    spReading := if taken.ends then none else some (left.drop taken.count) }

/-- A read begins: acknowledged, the port supplies the pending reply from its first byte and keeps the reply (08 R168). -/
def State.startRead (s : State) (target : BitVec 7) (taken : ReadSpan) : State :=
  let t := s.startCondition
  if s.acknowledges target then State.supply { t with spAck := true } t.spReply.bytes taken
  else { t with spAck := false, spOut := [] }

/-- A read: with an address byte it begins, without one it takes further bytes of the read in progress (08 R168, R170; log 18). -/
def State.readReply (s : State) (target : Option (BitVec 7)) (taken : ReadSpan) : State :=
  match target with
  | some address => s.startRead address taken
  | none =>
    match s.spReading with
    | none => s
    | some left => s.supply left taken

def execSpWriteStart (target : BitVec 7) (s : State) : Host.Outcome State Fault Refusal := done (s.startWrite target)

def execSpBadFrame (s : State) : Host.Outcome State Fault Refusal := done s.badWrite

def execSpWriteAborted (s : State) : Host.Outcome State Fault Refusal := done s.abortWrite

def execSpRead (target : Option (BitVec 7)) (taken : ReadSpan) (s : State) : Host.Outcome State Fault Refusal :=
  done (s.readReply target taken)

end Sys2Proof.Machine
end

