-- ==== Sys2Proof/Machine/ReadingRequests.lean ====
section
/-! DEFINITION. The eleven reading requests: they return state and change nothing in the tables (00, 08 R169). -/

namespace Sys2Proof.Machine

/-- READ_STATUS (08 R171). -/
def State.readStatusBlock (payload : List Byte) (_ : Origin) (s : State) : Answer :=
  readThen (readNothing payload) (fun _ t => t.ok t.statusBlock) s

/-- READ_EVENTS (11 R187). -/
def State.readEventsBlock (payload : List Byte) (_ : Origin) (s : State) : Answer :=
  readThen (readNothing payload) (fun _ t => t.ok t.eventsBlock) s

/-- READ_CONFIG (09 R175). -/
def State.readConfigBlock (payload : List Byte) (_ : Origin) (s : State) : Answer :=
  readThen (readNothing payload) (fun _ t => t.ok t.config.bytes) s

/-- READ_CUE (01 R13). -/
def State.readCueBlock (payload : List Byte) (_ : Origin) (s : State) : Answer :=
  readThen (readOne 1 64 payload) (fun n t => t.ok (t.slot n).bytes) s

/-- LIST_CUES (01 R14). -/
def State.listCuesBlock (payload : List Byte) (_ : Origin) (s : State) : Answer :=
  readThen (readFirst 64 payload) (fun first t => t.ok (t.cueListing first)) s

/-- FIND_CUE (01 R15). -/
def State.findCueBlock (payload : List Byte) (_ : Origin) (s : State) : Answer :=
  readThen (readLabel payload) (fun label t =>
    match (t.slotsLabelled label).head? with
    | none => t.refuse .noCue
    | some n => t.ok [byte n]) s

/-- LIST_PLAYS (02 R63). -/
def State.listPlaysBlock (payload : List Byte) (_ : Origin) (s : State) : Answer :=
  readThen (readFirst 24 payload) (fun first t => t.ok (t.playListing first)) s

/-- QUERY_PLAY (02 R64). For an id without a play together with a first entry out of range the manual gives both BAD_ARG and
NO_PLAY, in no order; that BAD_ARG comes first is the model's choice (log 27). -/
def State.queryPlayBlock (payload : List Byte) (_ : Origin) (s : State) : Answer :=
  readThen (readQueryPlay payload) (fun q t =>
    match t.play q.1 with
    | none => t.refuse .noPlay
    | some p => t.ok (t.playReport q.1 p q.2)) s

/-- QUERY_CHANNEL (04 R98, R99). -/
def State.queryChannelBlock (payload : List Byte) (_ : Origin) (s : State) : Answer :=
  readThen (readOne 1 16 payload) (fun c t =>
    match t.channel c with
    | none => t.refuse .badArg
    | some x => t.ok (t.channelReport c x)) s

/-- READ_PATTERN (06 R143). -/
def State.readPatternBlock (payload : List Byte) (_ : Origin) (s : State) : Answer :=
  readThen (readOne 1 16 payload) (fun k t =>
    match t.pattern k with
    | none => t.refuse .badArg
    | some x => t.ok x.report) s

/-- QUERY_INPUTS (06 R144). -/
def State.queryInputsBlock (payload : List Byte) (_ : Origin) (s : State) : Answer :=
  readThen (readNothing payload) (fun _ t => t.ok t.inputsReport) s

def execReadStatus (via : Via) (payload : List Byte) (s : State) : Host.Outcome State Fault Refusal :=
  done (s.request .reading via (State.readStatusBlock payload))

def execReadEvents (via : Via) (payload : List Byte) (s : State) : Host.Outcome State Fault Refusal :=
  done (s.request .reading via (State.readEventsBlock payload))

def execReadConfig (via : Via) (payload : List Byte) (s : State) : Host.Outcome State Fault Refusal :=
  done (s.request .reading via (State.readConfigBlock payload))

def execReadCue (via : Via) (payload : List Byte) (s : State) : Host.Outcome State Fault Refusal :=
  done (s.request .reading via (State.readCueBlock payload))

def execListCues (via : Via) (payload : List Byte) (s : State) : Host.Outcome State Fault Refusal :=
  done (s.request .reading via (State.listCuesBlock payload))

def execFindCue (via : Via) (payload : List Byte) (s : State) : Host.Outcome State Fault Refusal :=
  done (s.request .reading via (State.findCueBlock payload))

def execListPlays (via : Via) (payload : List Byte) (s : State) : Host.Outcome State Fault Refusal :=
  done (s.request .reading via (State.listPlaysBlock payload))

def execQueryPlay (via : Via) (payload : List Byte) (s : State) : Host.Outcome State Fault Refusal :=
  done (s.request .reading via (State.queryPlayBlock payload))

def execQueryChannel (via : Via) (payload : List Byte) (s : State) : Host.Outcome State Fault Refusal :=
  done (s.request .reading via (State.queryChannelBlock payload))

def execReadPattern (via : Via) (payload : List Byte) (s : State) : Host.Outcome State Fault Refusal :=
  done (s.request .reading via (State.readPatternBlock payload))

def execQueryInputs (via : Via) (payload : List Byte) (s : State) : Host.Outcome State Fault Refusal :=
  done (s.request .reading via (State.queryInputsBlock payload))

end Sys2Proof.Machine
end

