-- ==== Sys2Proof/Machine/StoreEvents.lean ====
section
/-! DEFINITION. The ends of a save, the resets that the pins and the supply make, and the start-up (chapter 10). An event
whose condition does not stand has no effect (log 1). -/

namespace Sys2Proof.Machine

/-- Every block passed its verify read: the store holds the contents of the working tables at acceptance, under a good check
word (10 R179). -/
def State.saveCompletion (s : State) : State :=
  match s.store with
  | .idle => s
  | .saving _ contents =>
    (State.storeIdle { s with image := contents, checkGood := true, imageValid := true }).raise .saveDone

/-- A block failed its verify read: the check word stays invalid (10 R179). -/
def State.saveFailure (s : State) : State :=
  match s.store with
  | .idle => s
  | .saving _ _ => s.storeIdle.raise .saveFailed

/-- The supply rises from below its operating range (10 R182; log 25). -/
def State.powerUp (s : State) : State := State.partReset { s with powered := true } .power

/-- RSTN is driven low; the cause is PIN where the part is supplied (10 R182; log 25). -/
def State.pinLow (s : State) : State :=
  if s.rstnLow then s
  else if s.powered then State.partReset { s with rstnLow := true } .pin
  else { s with rstnLow := true }

/-- RSTN returns high: STARTING begins where the part is supplied (10 R182, R183). -/
def State.pinHigh (s : State) : State :=
  if s.rstnLow then { s with rstnLow := false, stage := if s.powered then .loading else .held } else s

/-- The image load ends (10 R183). -/
def State.loadEnd (s : State) : State := if s.stage = .loading then s.endLoad else s

/-- The part stands in the settle delay (10 R183). -/
def Stage.settles : Stage → Bool
  | .settling _ => true
  | .held | .loading | .running => false

/-- The settle delay ends (10 R184). -/
def State.settleEnd (s : State) : State := if s.stage.settles then s.enterRunning else s

/-- The supply falls below its operating range: every live state is lost, and a save in progress ends without completion
(10 R180; log 14). -/
def State.powerDown (s : State) : State := State.partReset { s with powered := false } s.resetCause

def execSaveCompletion (s : State) : Host.Outcome State Fault Refusal := done s.saveCompletion

def execSaveFailure (s : State) : Host.Outcome State Fault Refusal := done s.saveFailure

def execPowerReset (s : State) : Host.Outcome State Fault Refusal := done s.powerUp

def execRstnLow (s : State) : Host.Outcome State Fault Refusal := done s.pinLow

def execRstnHigh (s : State) : Host.Outcome State Fault Refusal := done s.pinHigh

def execImageLoadEnd (s : State) : Host.Outcome State Fault Refusal := done s.loadEnd

def execEntryToRunning (s : State) : Host.Outcome State Fault Refusal := done s.settleEnd

def execPowerLoss (s : State) : Host.Outcome State Fault Refusal := done s.powerDown

end Sys2Proof.Machine
end

