-- ==== Sys2Proof/Machine/Dispatch.lean ====
section
/-! DEFINITION. The meaning of every command: one arm per row of spec/opcode_table.json. -/

namespace Sys2Proof.Machine

def exec (i : Instr) (s : State) : Host.Outcome State Fault Refusal :=
  match i with
  | .readStatus via payload => Sys2Proof.Machine.execReadStatus via payload s
  | .readEvents via payload => Sys2Proof.Machine.execReadEvents via payload s
  | .readConfig via payload => Sys2Proof.Machine.execReadConfig via payload s
  | .readCue via payload => Sys2Proof.Machine.execReadCue via payload s
  | .listCues via payload => Sys2Proof.Machine.execListCues via payload s
  | .findCue via payload => Sys2Proof.Machine.execFindCue via payload s
  | .listPlays via payload => Sys2Proof.Machine.execListPlays via payload s
  | .queryPlay via payload => Sys2Proof.Machine.execQueryPlay via payload s
  | .queryChannel via payload => Sys2Proof.Machine.execQueryChannel via payload s
  | .readPattern via payload => Sys2Proof.Machine.execReadPattern via payload s
  | .queryInputs via payload => Sys2Proof.Machine.execQueryInputs via payload s
  | .writeCue via payload => Sys2Proof.Machine.execWriteCue via payload s
  | .setTrim via payload => Sys2Proof.Machine.execSetTrim via payload s
  | .retireCue via payload => Sys2Proof.Machine.execRetireCue via payload s
  | .trigger via payload => Sys2Proof.Machine.execTrigger via payload s
  | .release via payload => Sys2Proof.Machine.execRelease via payload s
  | .releaseAll via payload => Sys2Proof.Machine.execReleaseAll via payload s
  | .freeze via payload => Sys2Proof.Machine.execFreeze via payload s
  | .thaw via payload => Sys2Proof.Machine.execThaw via payload s
  | .writePattern via payload => Sys2Proof.Machine.execWritePattern via payload s
  | .clearFault via payload => Sys2Proof.Machine.execClearFault via payload s
  | .setConfig via payload => Sys2Proof.Machine.execSetConfig via payload s
  | .save via payload => Sys2Proof.Machine.execSave via payload s
  | .snapshotResume via payload => Sys2Proof.Machine.execSnapshotResume via payload s
  | .clearEvents via payload => Sys2Proof.Machine.execClearEvents via payload s
  | .keepalive via payload => Sys2Proof.Machine.execKeepalive via payload s
  | .fallbackExit via payload => Sys2Proof.Machine.execFallbackExit via payload s
  | .setServiceMode via payload => Sys2Proof.Machine.execSetServiceMode via payload s
  | .reset via payload => Sys2Proof.Machine.execReset via payload s
  | .badRequest via code => Sys2Proof.Machine.execBadRequest via code s
  | .linkGapExpiry => Sys2Proof.Machine.execLinkGapExpiry s
  | .linkByteError => Sys2Proof.Machine.execLinkByteError s
  | .linkFrameCheckFailed => Sys2Proof.Machine.execLinkFrameCheckFailed s
  | .frameForAnotherUnit address => Sys2Proof.Machine.execFrameForAnotherUnit address s
  | .replyStart => Sys2Proof.Machine.execReplyStart s
  | .replySent => Sys2Proof.Machine.execReplySent s
  | .replyDropped => Sys2Proof.Machine.execReplyDropped s
  | .spWriteStart target => Sys2Proof.Machine.execSpWriteStart target s
  | .spBadFrame => Sys2Proof.Machine.execSpBadFrame s
  | .spWriteAborted => Sys2Proof.Machine.execSpWriteAborted s
  | .spRead target taken => Sys2Proof.Machine.execSpRead target taken s
  | .delayExpiry play => Sys2Proof.Machine.execDelayExpiry play s
  | .rampStepExpiry play => Sys2Proof.Machine.execRampStepExpiry play s
  | .holdExpiry play => Sys2Proof.Machine.execHoldExpiry play s
  | .fadeStepExpiry play => Sys2Proof.Machine.execFadeStepExpiry play s
  | .watchdogExpiry => Sys2Proof.Machine.execWatchdogExpiry s
  | .faultConditionChange channel condition present => Sys2Proof.Machine.execFaultConditionChange channel condition present s
  | .trip channel condition => Sys2Proof.Machine.execTrip channel condition s
  | .openLoadDetection channel => Sys2Proof.Machine.execOpenLoadDetection channel s
  | .retryExpiry channel => Sys2Proof.Machine.execRetryExpiry channel s
  | .goodRunExpiry channel => Sys2Proof.Machine.execGoodRunExpiry channel s
  | .temperatureSample degrees => Sys2Proof.Machine.execTemperatureSample degrees s
  | .rawLevelChange line level => Sys2Proof.Machine.execRawLevelChange line level s
  | .debounceExpiry line => Sys2Proof.Machine.execDebounceExpiry line s
  | .windowExpiry pattern => Sys2Proof.Machine.execWindowExpiry pattern s
  | .saveCompletion => Sys2Proof.Machine.execSaveCompletion s
  | .saveFailure => Sys2Proof.Machine.execSaveFailure s
  | .powerReset => Sys2Proof.Machine.execPowerReset s
  | .rstnLow => Sys2Proof.Machine.execRstnLow s
  | .rstnHigh => Sys2Proof.Machine.execRstnHigh s
  | .imageLoadEnd => Sys2Proof.Machine.execImageLoadEnd s
  | .entryToRunning => Sys2Proof.Machine.execEntryToRunning s
  | .powerLoss => Sys2Proof.Machine.execPowerLoss s
  | .linkSyncByte => Sys2Proof.Machine.execLinkSyncByte s

end Sys2Proof.Machine
end

