-- ==== Sys2Proof/Machine/Tick.lean ====
section
/-! DEFINITION. What time does to the part while no command waits (log 2): each idle step is 50 µs, the play timers move at the
end of every ms of the Play Engine's timebase, and a timer that has run out leads to the expiry that its rule names. Nothing runs
while the part is held in reset. -/

namespace Sys2Proof.Machine

/-! ## Which expiries are due -/

/-- The expiry that ends the present interval of a play; SUSTAIN has none (02 R37). -/
def Phase.expiry : Phase → Nat → Option Instr
  | .delay, id => some (.delayExpiry id)
  | .ramp, id => some (.rampStepExpiry id)
  | .hold, id => some (.holdExpiry id)
  | .fadeout _ _, id => some (.fadeStepExpiry id)
  | .sustain, _ => none

/-- The expiry of the play in record `id`, if it is due (02 R37, R59). -/
def State.playDue (s : State) (id : Nat) : Option Instr :=
  match s.expiring id with
  | none => none
  | some p => p.phase.expiry id

/-- The detections and expiries of channel `c` that are due (05 R104, R109, R114). -/
def Channel.due (x : Channel) (i : Items) (c : Nat) : List Instr :=
  ([FaultCondition.overcurrent, .short].filter (x.detects i)).map (.trip c) ++
    (if x.detects i .openLoad then [.openLoadDetection c] else []) ++
    (if x.retryDue then [.retryExpiry c] else []) ++
    (if x.goodRunDue i then [.goodRunExpiry c] else [])

def State.channelDue (s : State) (c : Nat) : List Instr :=
  match s.channel c with
  | none => []
  | some x => x.due s.config c

def State.lineDue (s : State) (l : Nat) : Option Instr :=
  if s.watches l ∧ (s.line l).any (·.timer == some 0) then some (.debounceExpiry l) else none

def State.windowDue (s : State) (k : Nat) : Option Instr :=
  if (s.pattern k).any (·.window == some 0) then some (.windowExpiry k) else none

/-- Every expiry that is due: what a timer that has run out, or a persistence that is long enough, leads to. -/
def State.due (s : State) : List Instr :=
  if s.stage = .held then []
  else
    (if s.stage = .settling 0 then [.entryToRunning] else []) ++
      playIds.filterMap s.playDue ++
      (List.range' 1 16).flatMap s.channelDue ++
      (List.range' 1 8).filterMap s.lineDue ++
      patternIds.filterMap s.windowDue ++
      (if s.watchdog = some 0 then [.watchdogExpiry] else [])

/-- One of the expiries that are due. When there are several the manual leaves the order open (02 R36, R37, 04 R90), and the
free value picks (log 3). -/
def pick (ties : Nat) : List Instr → Option Instr
  | [] => none
  | [x] => some x
  | x :: y :: more => some ((x :: y :: more).getD (Config.tieBreak ties % (more.length + 2)) x)

/-! ## Time -/

/-- What a timer that counts down has left after an idle step (05 R109, 06 R127, R135, 07 R146, 10 R183; log 2). -/
def countDown (timer : Option Nat) : Option Nat := timer.map (· - Config.tickMicros)

/-- What a measurement that counts up has come to after an idle step (05 R104, R113; log 2). -/
def countUp (measure : Option Nat) : Option Nat := measure.map (· + Config.tickMicros)

def Sense.tick (x : Sense) : Sense := { x with persistence := countUp x.persistence }

def Channel.tick (x : Channel) : Channel :=
  { x with
    retryTimer := countDown x.retryTimer
    goodRun := countUp x.goodRun
    overcurrent := x.overcurrent.tick
    short := x.short.tick
    openLoad := x.openLoad.tick }

def Stage.tick : Stage → Stage
  | .settling left => .settling (left - Config.tickMicros)
  | .held => .held
  | .loading => .loading
  | .running => .running

/-- A play timer stands still while the Play Engine is frozen (02 R59). -/
def Play.tick (p : Play) (frozen : Bool) : Play := if frozen then p else { p with timer := p.timer - 1 }

/-- The Play Engine's timebase: at the end of its ms every play timer moves by one ms (02 R37). -/
def State.tickPlays (s : State) : State :=
  if s.micros + Config.tickMicros < Config.msMicros then { s with micros := s.micros + Config.tickMicros }
  else { s with micros := 0, plays := mapBank (fun p => p.map (·.tick s.frozen)) s.plays }

/-- 50 µs pass: every timer and every persistence moves by 50 µs, and the Play Engine's timebase with them (log 2). -/
def State.tick (s : State) : State :=
  if s.stage = .held then s
  else State.tickPlays
    { s with
      stage := s.stage.tick
      channels := mapBank Channel.tick s.channels
      lines := mapBank (fun x => { x with timer := countDown x.timer }) s.lines
      patterns := mapBank (fun x => { x with window := countDown x.window }) s.patterns
      watchdog := countDown s.watchdog }

end Sys2Proof.Machine
end

