-- ==== Sys2Proof/Machine/Step.lean ====
section
/-! DEFINITION. One step: the command at the front of the queue, or on an empty queue what time brings. -/

namespace Sys2Proof.Machine

/-- A step on an empty queue: an expiry that is due, or 50 µs (log 2). -/
def idle (s : State) : Host.Outcome State Fault Refusal :=
  match pick s.ties s.due with
  | none => .next s.tick
  | some e => exec e { s with ties := s.ties + 1 }

/-- A step takes the command at the front of the queue and runs it on the queue's rest. -/
def step (s : State) : Host.Outcome State Fault Refusal :=
  match s.pending with
  | [] => idle s
  | c :: rest => exec c { s with pending := rest }

/-- The state with the command that a word spells at the front of its queue; unchanged where the word spells none. -/
def State.withFetchWord (s : State) (nbits w : Nat) : State :=
  match decodeTableWord nbits w with
  | none => s
  | some c => { s with pending := c :: s.pending }

end Sys2Proof.Machine
end

