-- ==== Sys2Proof/Safety.lean ====
section
/-! DEFINITION. The properties of a state that the manual says the part keeps, and the predicates that statements share. -/

namespace Sys2Proof.Machine

/-! ## Numbers -/

def channelIds : List Nat := List.range' 1 16

def slotIds : List Nat := List.range' 1 64

def lineIds : List Nat := List.range' 1 8

/-- The images that the part holds: the stored one, and the one that a save is writing (10 R176, R179). -/
def State.heldImages (s : State) : List Image :=
  s.image ::
    match s.store with
    | .idle => []
    | .saving _ contents => [contents]

/-! ## Requests -/

/-- The class and the port of a request; none for every other command (09 Table 9.3a). -/
def requestOf : Instr → Option (RequestClass × Via)
  | .readStatus via _ | .readEvents via _ | .readConfig via _ | .readCue via _ | .listCues via _ | .findCue via _
  | .listPlays via _ | .queryPlay via _ | .queryChannel via _ | .readPattern via _ | .queryInputs via _ =>
    some (.reading, via)
  | .writeCue via _ | .setTrim via _ | .retireCue via _ | .trigger via _ | .release via _ | .releaseAll via _
  | .freeze via _ | .thaw via _ | .writePattern via _ | .clearFault via _ | .setConfig via _ | .save via _
  | .snapshotResume via _ | .clearEvents via _ | .keepalive via _ => some (.other, via)
  | .fallbackExit via _ | .setServiceMode via _ | .reset via _ => some (.linkOnly, via)
  | .badRequest via _ => some (.unknown, via)
  | _ => none

/-- A request of class `k` arrives by `via`, passes the port checks, and is taken in state `t` with origin `o` (08 R163, R164,
R166, R167, R169). -/
def Taken (s : State) (k : RequestClass) (via : Via) (t : State) (o : Origin) : Prop :=
  s.receive via = (t, some o) ∧ t.portCheck k o = none ∧ ¬(o = .group ∧ k = .reading)

/-- The next state in which a request taken in `t` with origin `o` is answered: `u` is the state its block leaves. -/
def replied (u : State) (st : Status) (payload : List Byte) (o : Origin) : Host.Outcome State Fault Refusal :=
  .next (Answer.send { state := u, reply := ⟨st, payload⟩ } o)

/-! ## After a reset -/

/-- Every value that the chapters give for a reset of cause `cause` (10 R182: 02 R27, 04 R77, 05 R101, R119, 06 R126, R131,
07 R145, 08 R162, R168, R169, 10 R177, 11 R185). -/
structure AfterReset (t : State) (cause : ResetCause) : Prop where
  cause : t.resetCause = cause
  starting : t.running = false
  noPlay : ∀ id, t.play id = none
  thawed : t.frozen = false
  noClaim : ∀ c, t.claimList c = []
  channels : ∀ c x, t.channel c = some x →
    x.state = .normal ∧ x.retryCount = 0 ∧ x.retryTimer = none ∧ x.goodRun = none ∧ x.openLoadFlag = false ∧
      x.level = 0 ∧ x.overcurrent.persistence = none ∧ x.short.persistence = none ∧ x.openLoad.persistence = none
  thermal : t.thermal.sum = 0 ∧ t.thermal.count = 0 ∧ t.thermal.lastReading = none ∧ t.thermal.state = .normal
  lines : ∀ l x, t.line l = some x → x.accepted = none ∧ x.timer = none
  patterns : ∀ k x, t.pattern k = some x → x.progress = 0 ∧ x.window = none
  link : t.watchdog = none ∧ t.fallbackOn = false ∧ t.entryCount = 0
  ports : t.receiver = .hunting ∧ t.linkReply = .idle ∧ t.spReply = .none ∧ t.spWrite = .none ∧ t.spReading = none ∧
    t.serviceMode = .plain .openMode
  /-- The address pins are read at every reset (08 R167). -/
  pins : t.spAddress = 0x30 + (if t.sa1 then 2 else 0) + (if t.sa0 then 1 else 0)
  /-- In force until the load ends (10 R183, 05 R119, 11 R186). -/
  factory : t.linkAddress = 1 ∧ t.linkBaud = .b19200 ∧ t.config.groups = [] ∧ t.config.averaging = .n16 ∧
    t.config.warn = 115 ∧ t.config.shutdown = 135 ∧ t.config.hysteresis = 10 ∧ t.config.attentionMask = 0x1B20
  store : t.store = .idle
  events : t.flags = 0 ∧ t.lastRefusal = none ∧ t.lastEviction = none

/-- `t` is the part after a reset of cause `cause` that came in `s`: it is loading, or held where it stands without supply or
with RSTN low, and the store and the raw levels of the lines stand (10 R180, R182, R183; the resume set: log 12). -/
def ResetFrom (s t : State) (cause : ResetCause) : Prop :=
  AfterReset t cause ∧ t.stage = (if s.rstnLow = true ∨ s.powered = false then .held else .loading) ∧
    t.rstnLow = s.rstnLow ∧ t.powered = s.powered ∧ t.image = s.image ∧ t.checkGood = s.checkGood ∧
    t.resumeSet = s.resumeSet ∧ ∀ l, (t.line l).map (·.raw) = (s.line l).map (·.raw)

/-! ## Records -/

/-- Every field of a cue record is in the range that 01 section 1.2, R5, R6 and R7 give it. -/
abbrev CueRecord.Valid (r : CueRecord) : Prop :=
  r.label.length ≤ 8 ∧ (∀ b ∈ r.label, 0x20 ≤ b.toNat ∧ b.toNat ≤ 0x7E) ∧ r.priority ≤ 15 ∧ r.stepPeriod ≠ 0 ∧
    (1 ≤ r.channels.length ∧ r.channels.length ≤ 16) ∧
    (∀ e ∈ r.channels, 1 ≤ e.channel ∧ e.channel ≤ 16) ∧ (r.channels.Pairwise fun a b => a.channel < b.channel) ∧
    match r.endAction with
    | .sustain => True
    | .release => True
    | .repeating n => n ≤ 15
    | .chain t => 1 ≤ t ∧ t ≤ 64

/-- Every field of a pattern record is in the range that 06 R130 gives it. -/
abbrev PatternRecord.Valid (r : PatternRecord) : Prop :=
  (1 ≤ r.elements.length ∧ r.elements.length ≤ 6) ∧ (∀ e ∈ r.elements, 1 ≤ e.line ∧ e.line ≤ 8) ∧
    (2 ≤ r.window ∧ r.window ≤ 200) ∧ 1 ≤ r.cue ∧ r.cue ≤ 64

/-! ## What an event does to the plays -/

/-- `u` differs from `t` at most in what the Play Engine, the Claim Arbiter and the Channel Supervisor write for plays: the
slots, the play records, the claim lists, the channel records and the Event Unit. -/
def PlaySide (t u : State) : Prop :=
  u = { t with
    slots := u.slots, plays := u.plays, claims := u.claims, channels := u.channels, flags := u.flags,
    lastRefusal := u.lastRefusal, lastEviction := u.lastEviction }

/-- Nothing of the Event Unit differs. -/
def SameEvents (t u : State) : Prop :=
  u.flags = t.flags ∧ u.lastRefusal = t.lastRefusal ∧ u.lastEviction = t.lastEviction

/-- The channel records of `u` are those of `t`, recomputed from all that `u` holds (03 R71, 05 R102). -/
def ChannelsFollow (t u : State) : Prop := u.channels = (State.drive { u with channels := t.channels }).channels

/-- Every play but that of record `id` stands as it stood. -/
def OtherPlaysStand (t u : State) (id : Nat) : Prop := ∀ j, j ≠ id → u.play j = t.play j

/-- The play `p` of record `id` has ended (02 R52, 04 R96, 01 R25). -/
def Ended (t u : State) (id : Nat) (p : Play) : Prop :=
  u.play id = none ∧ (∀ c, u.claimList c = (t.claimList c).filter (· != id)) ∧
    ∀ n, u.slot n = if n = p.cue ∧ (t.slot n).status = .retiring then (t.slot n).freed else t.slot n

/-- The claims of record `id` have arrived on the channels `cs`, at the head of the band of `priority` (04 R81). -/
def Arrived (t u : State) (id : Nat) (cs : List Nat) (priority : Nat) : Prop :=
  ∀ c ∈ channelIds, u.claimList c =
    if c ∈ cs then place (fun j => decide (priority < u.priorityOf j)) id ((t.claimList c).filter (· != id))
    else t.claimList c

/-- The play `p` of record `id` has restarted with this source and priority (02 R54, 04 R94). -/
def Restarted (t u : State) (id : Nat) (p : Play) (source : Source) (priority : Nat) : Prop :=
  u.play id = some ((t.recordOf p).begin p.cue source priority) ∧
    Arrived t u id (t.recordOf p).channelNumbers priority ∧ u.slots = t.slots

/-- The play `p` of record `id` has been released (02 R42, R50, R53, 03 R69): it has entered FADEOUT with its present levels as
its origin levels, or with release fade 0 it has ended or taken its pending restart. -/
def Released (t u : State) (id : Nat) (p : Play) : Prop :=
  let r := t.recordOf p
  if r.releaseFade ≠ 0 then
    u.play id = some { p with
      phase := .fadeout (r.channels.map fun e => ⟨e.channel, playLevel r p e.channel⟩) 0, timer := r.stepPeriod.toNat } ∧
      u.claims = t.claims ∧ u.slots = t.slots
  else if p.pendingRestart = true then Restarted t u id p p.source r.priority
  else Ended t u id p

/-! ## What every step keeps -/

/-- Without supply, or with RSTN low, the part is held in reset (10 R180, R182). -/
abbrev HeldKept (s : State) : Prop := s.rstnLow = true ∨ s.powered = false → s.stage = .held

/-- Every channel drives the level that 03 R71 gives it. -/
abbrev LevelsFollowTheOwners (s : State) : Prop :=
  ∀ c ∈ channelIds, ∀ x ∈ s.channel c, x.level = s.outputLevel c x.state

/-- What the table of 05 section 5.3, and R103, R104, R109, R113, say of a channel record in each supervisor state. -/
abbrev Channel.Kept (x : Channel) : Prop :=
  (x.retryTimer.isSome = true ↔ x.state = .tripped) ∧
  (x.goodRun.isSome = true → x.state = .normal ∧ x.level ≠ 0) ∧
  (x.state ≠ .normal → x.level = 0) ∧
  (x.overcurrent.persistence.isSome = true ↔ x.overcurrent.reported = true ∧ 1 ≤ x.level) ∧
  (x.short.persistence.isSome = true ↔ x.short.reported = true ∧ 1 ≤ x.level) ∧
  (x.openLoad.persistence.isSome = true ↔ x.openLoad.reported = true ∧ 64 ≤ x.level ∧ x.openLoadFlag = false) ∧
  x.retryCount ≤ 8 ∧ (x.state ≠ .locked → x.retryCount ≤ 7)

/-- Every channel record is kept so, every level follows its owner, and max retries is 0..7 wherever it is held (05 R111). -/
abbrev ChannelsKept (s : State) : Prop :=
  LevelsFollowTheOwners s ∧ (∀ x ∈ s.channels.toList, x.Kept) ∧
    s.config.maxRetries ≤ 7 ∧ ∀ m ∈ s.heldImages, m.config.maxRetries ≤ 7

/-- Every pattern's progress is less than its element count, and a disabled pattern's progress is 0 (06 R131); no record that
the part holds lacks elements (06 R130). -/
abbrev PatternsKept (s : State) : Prop :=
  (∀ x ∈ s.patterns.toList, x.progress < x.record.elements.length ∧ (x.record.enabled = false → x.progress = 0)) ∧
    ∀ m ∈ s.heldImages, ∀ r ∈ m.patterns.toList, r.elements ≠ []

/-- A window timer runs exactly while progress is 1 or more (06 section 6.2). -/
abbrev WindowsKept (s : State) : Prop :=
  ∀ x ∈ s.patterns.toList, (x.window.isSome = true ↔ 1 ≤ x.progress)

/-- An enabled line of the RUNNING part has an accepted level, and its timer runs exactly while its raw level differs; every
other line has neither (06 R126, R127, R128, R144). -/
abbrev LinesKept (s : State) : Prop :=
  ∀ l ∈ lineIds, ∀ x ∈ s.line l,
    if s.watches l then x.accepted.isSome = true ∧ (x.timer.isSome = true ↔ x.accepted ≠ some x.raw)
    else x.accepted = none ∧ x.timer = none

/-- The watchdog runs exactly while the part is RUNNING, fallback is off and the period is not 0 (07 R147). -/
abbrev WatchdogKept (s : State) : Prop :=
  s.watchdog.isSome = (s.running && !s.fallbackOn && s.config.watchdogPeriod != 0)

/-- A slot is RETIRING only while a play of its cue exists (01 R25), and no image holds a RETIRING slot (01 R3). -/
abbrev RetiringKept (s : State) : Prop :=
  (∀ n ∈ slotIds, (s.slot n).status = .retiring → (s.playOf n).isSome = true) ∧
    ∀ m ∈ s.heldImages, ∀ x ∈ m.slots.toList, x.status ≠ .retiring

/-- Record 24, and no other, holds a play of source FALLBACK, at priority 16 and with no pending restart (02 R28, 07 R157); while
fallback is off it stands in FADEOUT (07 R159); and no other play, and no record that the part holds, has a priority above 15. -/
abbrev FallbackKept (s : State) : Prop :=
  (∀ id ∈ List.range' 1 23, ∀ p ∈ s.play id, p.source ≠ .fallback ∧ p.priority ≤ 15) ∧
  (∀ p ∈ s.play 24, p.source = .fallback ∧ p.priority = 16 ∧ p.pendingRestart = false) ∧
  (s.fallbackOn = false → ∀ p ∈ s.play 24, p.phase.beforeFade = false) ∧
  (∀ x ∈ s.slots.toList, x.record.priority ≤ 15) ∧
  ∀ m ∈ s.heldImages, ∀ x ∈ m.slots.toList, x.record.priority ≤ 15

/-- A claim list is ordered by non-increasing priority (04 R78). -/
abbrev State.Ordered (s : State) (l : List Nat) : Prop := l.Pairwise fun a b => s.priorityOf b ≤ s.priorityOf a

/-- The claim lists and the play records agree: at most one play to a cue (02 R27); every play holds exactly one claim on each
channel of its cue and none elsewhere (04 R80); every list is at most 6 long and ordered (04 R78); and there is no play, and
so no claim, outside RUNNING (02 R27, 04 R77). -/
abbrev ClaimsKept (s : State) : Prop :=
  (∀ a ∈ playIds, ∀ b ∈ playIds, ∀ p ∈ s.play a, ∀ q ∈ s.play b, p.cue = q.cue → a = b) ∧
  (∀ c ∈ channelIds,
    (s.claimList c).length ≤ 6 ∧ (s.claimList c).Nodup ∧ s.Ordered (s.claimList c) ∧
      (∀ id ∈ s.claimList c, id ∈ playIds ∧ (s.play id).isSome = true) ∧
      ∀ id ∈ playIds, ∀ p ∈ s.play id, (id ∈ s.claimList c ↔ c ∈ (s.recordOf p).channelNumbers)) ∧
  (s.running = false → ∀ id ∈ playIds, s.play id = none)

/-- The accumulator holds fewer samples than a reading takes (05 section 5.5, R119, R120). -/
abbrev ThermalKept (s : State) : Prop := s.thermal.count < s.config.averaging.samples

/-- Bit 15 of every event set is 0 (09 section 9.5). -/
abbrev EventSetsKept (s : State) : Prop :=
  s.flags.msb = false ∧ s.config.attentionMask.msb = false ∧ ∀ m ∈ s.heldImages, m.config.attentionMask.msb = false

/-- A resume set names at most 8 cues 1..64, none twice (10 R176). -/
abbrev ResumeOk (l : List Nat) : Prop := l.length ≤ 8 ∧ l.Nodup ∧ ∀ n ∈ l, 1 ≤ n ∧ n ≤ 64

abbrev ResumeKept (s : State) : Prop := ResumeOk s.resumeSet ∧ ∀ m ∈ s.heldImages, ResumeOk m.resume

/-! ## Plays that are made, and triggers whose refusal is an event -/

/-- The plays of `marks` have been evicted for cue `n`, in that order (02 R55, 04 R86, 01 R25). -/
def Evicted (t u : State) (n : Nat) (marks : List Nat) : Prop :=
  (∀ m, u.slot m =
    if (t.slot m).status = .retiring ∧ marks.any (fun e => (t.play e).any (·.cue == m)) then (t.slot m).freed else t.slot m) ∧
  u.lastRefusal = t.lastRefusal ∧
  (marks = [] → u.flags = t.flags ∧ u.lastEviction = t.lastEviction) ∧
  ∀ e p, marks.getLast? = some e → t.play e = some p → u.flags = t.flags ||| 0x0004 ∧ u.lastEviction = some ⟨p.cue, n⟩

/-- Record `id` holds a play of cue `n` at the start of its profile, after the plays of `marks` were evicted; the claims of
`gone` left every list, and those of `id` stand at the head of the band of `priority` (02 R34, 04 R81, R86, R92). -/
def PlayMade (t u : State) (n : Nat) (source : Source) (priority : Nat) (marks gone : List Nat) (id : Nat) : Prop :=
  let r := (t.slot n).record
  u.play id = some (r.begin n source priority) ∧
  (∀ j, j ≠ id → u.play j = if j ∈ marks then none else t.play j) ∧
  (∀ c ∈ channelIds, u.claimList c =
    let left := (t.claimList c).filter fun j => decide (j ∉ gone)
    if c ∈ r.channelNumbers then place (fun j => decide (priority < u.priorityOf j)) id (left.filter (· != id)) else left) ∧
  Evicted t u n marks

/-- A trigger was refused, which raised TRIGGER_REFUSED and replaced the last-refusal record, and did nothing else (02 R35). -/
def RefusedBy (t u : State) (n : Nat) (source : Source) (reason : Status) (channel : Nat) : Prop :=
  u = { t with channels := u.channels, flags := t.flags ||| 0x0002, lastRefusal := some ⟨n, source, reason, channel⟩ }

/-- A trigger of cue `n` without override, from check 4 on, whose refusal is an event, has led from `t` to `u` (02 R30 to R35). -/
def TriggeredBy (t u : State) (n : Nat) (source : Source) : Prop :=
  let r := (t.slot n).record
  PlaySide t u ∧
  ((t.slot n).status = .free → RefusedBy t u n source .noCue 0) ∧
  ((t.slot n).status = .retiring → RefusedBy t u n source .cueRetiring 0) ∧
  ((t.slot n).status = .held →
    (∀ id p, t.playOf n = some id → t.play id = some p →
      (p.source = .fallback → RefusedBy t u n source .cueProtected 0) ∧
      (p.source ≠ .fallback → SameEvents t u ∧ OtherPlaysStand t u id ∧
        (r.policy = .restart → Restarted t u id p source r.priority) ∧
        (r.policy = .queue → u.play id = some { p with pendingRestart := true } ∧ u.claims = t.claims ∧ u.slots = t.slots) ∧
        (r.policy = .ignore → u = { t with channels := u.channels }))) ∧
    (t.playOf n = none →
      (23 ≤ t.ordinaryTotal → RefusedBy t u n source .playFull 0) ∧
      (t.ordinaryTotal < 23 →
        (∀ c, t.admissionCheck r.channelNumbers r.priority = .fails c → RefusedBy t u n source .claimFull c) ∧
        ∀ marks, t.admissionCheck r.channelNumbers r.priority = .admits marks → FallbackKept t → ClaimsKept t →
          ∃ id, 1 ≤ id ∧ id ≤ 23 ∧ (t.play id = none ∨ id ∈ marks) ∧
            (∀ j, 1 ≤ j → j < id → j ∉ marks ∧ t.play j ≠ none) ∧ PlayMade t u n source r.priority marks marks id)))

/-- The play of cue `n`, unless it is the fallback play, has been released as a RELEASE request would (06 R138, 02 R56). -/
def ReleasedBy (t u : State) (n : Nat) : Prop :=
  PlaySide t u ∧ SameEvents t u ∧
  (t.playOf n = none → u = { t with channels := u.channels }) ∧
  ∀ id p, t.playOf n = some id → t.play id = some p →
    (p.source = .fallback → u = { t with channels := u.channels }) ∧
    (p.source ≠ .fallback → OtherPlaysStand t u id ∧
      (p.phase.beforeFade = true → Released t u id { p with pendingRestart := false }) ∧
      (p.phase.beforeFade = false → u.play id = some { p with pendingRestart := false } ∧ u.claims = t.claims ∧
        u.slots = t.slots))

/-- The action of pattern `k` has led from `t` to `u`, and the outputs follow (06 R136 to R139). -/
def ActedOn (t u : State) (k : Nat) : Prop :=
  ChannelsFollow t u ∧ ∀ x, t.pattern k = some x →
    let cue := x.record.cue
    (x.record.action = .trigger → TriggeredBy t u cue (.input k)) ∧
    (x.record.action = .release → ReleasedBy t u cue) ∧
    (x.record.action = .toggle →
      ((∃ id p, t.playOf cue = some id ∧ t.play id = some p ∧ p.phase.beforeFade = true) → ReleasedBy t u cue) ∧
      (¬(∃ id p, t.playOf cue = some id ∧ t.play id = some p ∧ p.phase.beforeFade = true) →
        TriggeredBy t u cue (.input k)))

/-- What `act` says of each number has come about for the numbers of the list, one after the other. -/
def InOrder (act : State → State → Nat → Prop) : List Nat → State → State → Prop
  | [], t, u => u = t
  | k :: ks, t, u => ∃ m, act t m k ∧ InOrder act ks m u

/-- The fallback play of cue `n` has been made in the empty record 24: by the conversion of the cue's play, or as a new play whose
claims the check admits (07 R153, R154, 04 R87, R95). -/
def FallbackMade (t u : State) (n : Nat) : Prop :=
  let r := (t.slot n).record
  (∀ id p, t.playOf n = some id → t.play id = some p →
    SameEvents t u ∧ u.slots = t.slots ∧ u.play 24 = some (r.begin n .fallback 16) ∧ u.play id = none ∧
      (∀ j, j ≠ id → j ≠ 24 → u.play j = t.play j) ∧
      ∀ c ∈ channelIds, u.claimList c =
        if c ∈ r.channelNumbers then 24 :: (t.claimList c).filter (· != id) else t.claimList c) ∧
  (t.playOf n = none →
    ∃ marks, t.admissionCheck r.channelNumbers 16 = .admits marks ∧ PlayMade t u n .fallback 16 marks marks 24)

end Sys2Proof.Machine
end

