-- ==== Sys2Proof/Certificates/Slice0/Obligations.lean ====
section
/-! DEFINITION. The statements that the provers are given. -/

open Sys2Proof Sys2Proof.Machine

/-! ## The step -/

/-- A step runs the command at the front of the queue on the queue's rest. -/
def Obligations.StepRunsTheFrontCommandOnTheRest : Prop :=
  ∀ (c : Instr) (rest : List Instr) (s : State),
    step { s with pending := c :: rest } = exec c { s with pending := rest }

/-- On an empty queue a step is one of the expiries that are due, or, when none is, 50 µs of time, in which nothing moves
while the part is held in reset (the model's choice, log 2 and log 3). Due are, outside reset, exactly the end of a settle
delay at 0, the expiries of the play timers at 0 unless the Play Engine is frozen, of the retry, debounce, window and watchdog
timers at 0 and of the good-run timers at the good-run time, and the detections on NORMAL channels of the conditions that have
persisted for the deglitch time. In those 50 µs the queue and everything that counts no time stand; the settle delay and the
retry, debounce, window and watchdog timers count down by 50 µs, each from the moment of its own start, and the good-run
timers and every running persistence grow by 50 µs. At the end of every ms of the Play Engine's timebase the play timers count
down by one ms, unless the Play Engine is frozen. -/
def Obligations.IdleStepTakesADueExpiryOrFiftyMicroseconds : Prop :=
  (∀ (s : State) (e : Instr),
    let time := match s.config.deglitch with | .us50 => 50 | .us100 => 100 | .us200 => 200 | .us400 => 400
    let out (id : Nat) (phase : Phase → Prop) : Prop :=
      s.frozen = false ∧ ∃ p, s.play id = some p ∧ p.timer = 0 ∧ phase p.phase
    let detected (c : Nat) (cond : FaultCondition) : Prop :=
      ∃ x long, s.channel c = some x ∧ x.state = .normal ∧ (x.sense cond).persistence = some long ∧ time ≤ long
    e ∈ s.due ↔ s.stage ≠ .held ∧
      match e with
      | .entryToRunning => s.stage = .settling 0
      | .delayExpiry id => out id (· = .delay)
      | .rampStepExpiry id => out id (· = .ramp)
      | .holdExpiry id => out id (· = .hold)
      | .fadeStepExpiry id => out id fun phase => ∃ origins k, phase = .fadeout origins k
      | .trip c cond => cond ≠ .openLoad ∧ detected c cond
      | .openLoadDetection c => detected c .openLoad
      | .retryExpiry c => ∃ x, s.channel c = some x ∧ x.state = .tripped ∧ x.retryTimer = some 0
      | .goodRunExpiry c => ∃ x run, s.channel c = some x ∧ x.goodRun = some run ∧ s.config.goodRunTime.toNat * 1000000 ≤ run
      | .debounceExpiry l => s.stage = .running ∧ (s.lineItems l).enabled = true ∧ ∃ x, s.line l = some x ∧ x.timer = some 0
      | .windowExpiry k => ∃ x, s.pattern k = some x ∧ x.window = some 0
      | .watchdogExpiry => s.watchdog = some 0
      | _ => False) ∧
  ∀ s : State, s.pending = [] →
    let down (timer : Option Nat) : Option Nat := timer.map (· - 50)
    let up (measure : Option Nat) : Option Nat := measure.map (· + 50)
    (s.due ≠ [] → ∃ e ∈ s.due, step s = exec e { s with ties := s.ties + 1 }) ∧
    (s.due = [] → s.stage = .held → step s = .next s) ∧
    (s.due = [] → s.stage ≠ .held → ∃ t, step s = .next t ∧ t.pending = s.pending ∧
      t = { s with
        micros := t.micros, stage := t.stage, plays := t.plays, channels := t.channels, lines := t.lines,
        patterns := t.patterns, watchdog := t.watchdog } ∧
      t.micros = (if s.micros + 50 < 1000 then s.micros + 50 else 0) ∧
      t.stage = (match s.stage with | .settling left => .settling (left - 50) | other => other) ∧
      (∀ id, t.play id = (s.play id).map fun p =>
        if s.frozen = true ∨ s.micros + 50 < 1000 then p else { p with timer := p.timer - 1 }) ∧
      (∀ c, t.channel c = (s.channel c).map fun x =>
        { x with
          retryTimer := down x.retryTimer, goodRun := up x.goodRun
          overcurrent := { x.overcurrent with persistence := up x.overcurrent.persistence }
          short := { x.short with persistence := up x.short.persistence }
          openLoad := { x.openLoad with persistence := up x.openLoad.persistence } }) ∧
      (∀ l, t.line l = (s.line l).map fun x => { x with timer := down x.timer }) ∧
      (∀ k, t.pattern k = (s.pattern k).map fun x => { x with window := down x.window }) ∧
      t.watchdog = down s.watchdog)

/-- Every command answers a next state, and none touches the queue or the counter of the free value. That nothing stops the
part is read from the manual (log 26). -/
def Obligations.EveryCommandAnswersANextStateAndKeepsTheQueue : Prop :=
  ∀ (c : Instr) (s : State), ∃ t, exec c s = .next t ∧ t.pending = s.pending ∧ t.ties = s.ties

/-! ## The ports -/

/-- A whole good frame is sorted by its address byte, and one addressed to the unit restarts a running watchdog before its
request is acted on. A frame for another unit, or another unit's reply, leaves the receiver hunting and changes nothing else.
A reply that waits is dropped first: its unit address is then the one in force, and where a reset waited, the frame comes to a
part that has just been reset (log 8). That this holds whatever the receiver's state is log 21. A reset leaves the part
loading, with the store and the raw levels as they stood; that the resume set stands is log 12. -/
def Obligations.GoodFramesAreSortedByTheirAddress : Prop :=
  ∀ (s : State) (address : Byte), s.stage ≠ .held →
    let sorted (t : State) : Prop :=
      let u : State :=
        if s.running = true ∧ s.fallbackOn = false ∧ s.config.watchdogPeriod ≠ 0 then
          { t with watchdog := some (s.config.watchdogPeriod.toNat *
              (if s.config.watchdogUnit = .second then 1000000 else 60000000)) }
        else t
      (address.toNat = t.linkAddress → s.receive (.link address) = (u, some .unicast)) ∧
      (address.toNat ≠ t.linkAddress → (address = 0 ∨ address.toNat ∈ s.config.groups) →
        s.receive (.link address) = (u, some .group)) ∧
      (address.toNat ≠ t.linkAddress → ¬(address = 0 ∨ address.toNat ∈ s.config.groups) →
        s.receive (.link address) = (t, none) ∧ exec (.frameForAnotherUnit address) s = .next t)
    (s.linkReply = .idle → sorted { s with receiver := .hunting }) ∧
    ∀ r d, s.linkReply = .waiting r d →
      (d.reset = false →
        sorted { s with linkReply := .idle, linkAddress := d.address.getD s.linkAddress, receiver := .hunting }) ∧
      (d.reset = true → ∃ v, ResetFrom s v .request ∧
        (address = 1 → s.receive (.link address) = (v, some .unicast)) ∧
        (address = 0 → s.receive (.link address) = (v, some .group)) ∧
        (address ≠ 1 → address ≠ 0 →
          s.receive (.link address) = (v, none) ∧ exec (.frameForAnotherUnit address) s = .next v))

/-- The port checks stand before every block's own, in this order, and a request that fails one has no effect beyond its
reply. A request that is not taken, and a reading request in a group or broadcast frame, has none at all. -/
def Obligations.PortChecksRefuseInTheirOrder : Prop :=
  ∀ (i : Instr) (k : RequestClass) (via : Via) (s t : State), requestOf i = some (k, via) →
    (s.receive via = (t, none) → exec i s = .next t) ∧
    (k = .reading → s.receive via = (t, some .group) → exec i s = .next t) ∧
    ∀ o : Origin, s.receive via = (t, some o) → ¬(o = .group ∧ k = .reading) →
      (t.running = false → exec i s = replied t .notReady [] o) ∧
      (t.running = true → k = .unknown → exec i s = replied t .badRequest [] o) ∧
      (t.running = true → k ≠ .unknown → k ≠ .reading → o = .servicePort → t.serviceMode.behaves = .readOnly →
        exec i s = replied t .refused [] o) ∧
      (t.running = true → k = .linkOnly → o = .servicePort → t.serviceMode.behaves ≠ .readOnly →
        exec i s = replied t .wrongPort [] o)

/-- A KEEPALIVE that is taken does nothing but be answered OK, or BAD_ARG with a payload. A request with an unknown code on a
RUNNING part does nothing but be answered BAD_REQUEST, and in a group or broadcast frame it is ignored. -/
def Obligations.KeepaliveAndUnknownCodesDoNothingElse : Prop :=
  ∀ (via : Via) (payload : List Byte) (code : Byte) (s t : State) (o : Origin),
    (Taken s .other via t o →
      exec (.keepalive via payload) s = replied t (if payload = [] then .ok else .badArg) [] o) ∧
    (s.receive via = (t, some o) → t.running = true →
      exec (.badRequest via code) s =
        match o with
        | .unicast => .next { t with linkReply := .waiting ⟨.badRequest, []⟩ ⟨none, false⟩ }
        | .group => .next t
        | .servicePort => .next { t with spReply := .ready ⟨.badRequest, []⟩ })

/-! ## Reading requests -/

/-- READ_STATUS reports its fourteen bytes; READ_EVENTS the flags, the mask and the two records, which read 00h while they are
empty; READ_CONFIG the 49 bytes of the configuration block, every item in ascending order of its code. A payload is answered
BAD_ARG. None changes anything. -/
def Obligations.StatusEventsAndConfigurationAreReported : Prop :=
  ∀ (via : Via) (s t : State) (o : Origin), Taken s .reading via t o →
    exec (.readStatus via []) s = replied t .ok
      [1, t.resetCause.code, if t.fallbackOn then 1 else 0, t.entryCount, if t.frozen then 1 else 0,
        t.thermal.state.code, (match t.thermal.lastReading with | none => 0xFF | some r => byte (r + 40).toNat),
        (match t.store with | .idle => 0 | .saving _ _ => 1),
        (match t.store with | .idle => 0xFF | .saving .buildingLink _ => 0 | .saving .servicePort _ => 1),
        if t.imageValid then 1 else 0, t.serviceMode.code,
        byte (playIds.filter fun id => (t.play id).isSome).length,
        byte (t.flags.toNat / 256), byte t.flags.toNat] o ∧
    exec (.readEvents via []) s = replied t .ok
      (bytes2 t.flags.toNat ++ bytes2 t.config.attentionMask.toNat ++
        (match t.lastRefusal with
          | none => [0, 0, 0, 0, 0]
          | some r => byte r.cue :: r.source.bytes ++ [r.reason.code, byte r.channel]) ++
        (match t.lastEviction with
          | none => [0, 0]
          | some r => [byte r.evicted, byte r.evicting])) o ∧
    exec (.readConfig via []) s = replied t .ok t.config.bytes o ∧
    t.config.bytes =
      [byte t.config.unitAddress, byte t.config.groups.length] ++ ((t.config.groups.map byte) ++ [0, 0, 0, 0]).take 4 ++
        [t.config.baud.code, t.config.watchdogPeriod, t.config.watchdogUnit.code, byte t.config.fallbackCue,
          t.config.startPolicy.code, byte t.config.startCue, byte t.config.settleDelay, t.config.serviceMode.code,
          byte t.config.maxRetries, t.config.retryDelay, t.config.goodRunTime, t.config.deglitch.code,
          byte t.config.averaging.samples, byte t.config.warn, byte t.config.shutdown, byte t.config.hysteresis,
          byte t.config.derate] ++
        (lineIds.map fun l => if (t.lineItems l).enabled then 1 else 0) ++
        (lineIds.map fun l => lineLevelCode (t.lineItems l).activeLevel) ++
        (lineIds.map fun l => byte (t.lineItems l).debounce.ms) ++
        [byte (t.config.attentionMask.toNat / 256), byte t.config.attentionMask.toNat] ∧
    t.config.bytes.length = 49 ∧
    ∀ payload, payload ≠ [] → exec (.readStatus via payload) s = replied t .badArg [] o ∧
      exec (.readEvents via payload) s = replied t .badArg [] o ∧
      exec (.readConfig via payload) s = replied t .badArg [] o

/-- READ_CUE reports a slot of any status; LIST_CUES lists at most 19 non-FREE slots from the first asked for, with the next
one's number; FIND_CUE finds the non-FREE slot with a label. Each changes nothing. -/
def Obligations.CueLookupsReport : Prop :=
  ∀ (via : Via) (payload : List Byte) (s t : State) (o : Origin), Taken s .reading via t o →
    exec (.readCue via payload) s =
      (match readOne 1 64 payload with
        | none => replied t .badArg [] o
        | some n => replied t .ok ((t.slot n).status.code :: (t.slot n).revision :: (t.slot n).record.bytes) o) ∧
    exec (.listCues via payload) s =
      (match readFirst 64 payload with
        | none => replied t .badArg [] o
        | some first =>
          let all := slotIds.filter fun n => first ≤ n && (t.slot n).status != .free
          replied t .ok (byte (all.take 19).length ::
            (all.take 19).flatMap (fun n => [byte n, (t.slot n).status.code, (t.slot n).revision]) ++
            [byte ((all.drop 19).head?.getD 0)]) o) ∧
    exec (.findCue via payload) s =
      (match readLabel payload with
        | none => replied t .badArg [] o
        | some label =>
          match slotIds.find? fun n => (t.slot n).status != .free && (t.slot n).record.label == label with
          | none => replied t .noCue [] o
          | some n => replied t .ok [byte n] o)

/-- LIST_PLAYS lists at most 9 plays from the first id asked for, with the next one's id; QUERY_PLAY reports a play record and
at most six of its channels, with the play's level, whether it owns the channel, and its fade origin level; QUERY_CHANNEL the
channel record and the whole claim list from the head; READ_PATTERN a pattern record, its progress and the whole ms left on
its window; QUERY_INPUTS the eight lines, and BAD_ARG for a payload. None changes anything. That QUERY_PLAY answers BAD_ARG,
and not NO_PLAY, for an id without a play together with a first entry out of range is the model's choice (log 27), as is the
rounding of the ms left (log 2). -/
def Obligations.PlayChannelPatternAndInputQueriesReport : Prop :=
  ∀ (via : Via) (payload : List Byte) (s t : State) (o : Origin), Taken s .reading via t o →
    exec (.listPlays via payload) s =
      (match readFirst 24 payload with
        | none => replied t .badArg [] o
        | some first =>
          let all := playIds.filter fun id => first ≤ id && (t.play id).isSome
          replied t .ok (byte (all.take 9).length ::
            (all.take 9).flatMap (fun id =>
              match t.play id with
              | none => []
              | some p => byte id :: byte p.cue :: p.source.bytes ++ [byte p.priority, p.phase.code]) ++
            [byte ((all.drop 9).head?.getD 0)]) o) ∧
    exec (.queryPlay via payload) s =
      (match readQueryPlay payload with
        | none => replied t .badArg [] o
        | some (id, first) =>
          match t.play id with
          | none => replied t .noPlay [] o
          | some p =>
            let all := (t.recordOf p).channelNumbers
            let given := (all.drop (first - 1)).take 6
            replied t .ok
              (byte id :: byte p.cue :: p.source.bytes ++ [byte p.priority, p.phase.code, p.step] ++ bytes3 p.timer ++
                [p.repeats.code, if p.pendingRestart then 1 else 0, byte p.phase.done] ++
                byte given.length :: given.flatMap (fun c =>
                  byte c :: bytes2 (playLevel (t.recordOf p) p c) ++
                    [if t.owner c = some id then 1 else 0] ++ bytes2 (p.phase.originAt c)) ++
                [if first + 6 ≤ all.length then byte (first + 6) else 0]) o) ∧
    (∀ c x, readOne 1 16 payload = some c → t.channel c = some x →
      exec (.queryChannel via payload) s = replied t .ok
        ([x.state.code, byte x.retryCount, if x.openLoadFlag then 1 else 0] ++ bytes2 x.level ++
          byte (t.claimList c).length :: (t.claimList c).flatMap (fun id =>
            match t.play id with
            | none => []
            | some p => [byte id, byte p.cue, byte p.priority] ++ bytes2 (playLevel (t.recordOf p) p c))) o) ∧
    (∀ k x, readOne 1 16 payload = some k → t.pattern k = some x →
      exec (.readPattern via payload) s = replied t .ok
        (x.record.bytes ++ byte x.progress :: bytes2 ((x.window.getD 0 + 999) / 1000)) o) ∧
    (readOne 1 16 payload = none → exec (.queryChannel via payload) s = replied t .badArg [] o ∧
      exec (.readPattern via payload) s = replied t .badArg [] o) ∧
    (payload ≠ [] → exec (.queryInputs via payload) s = replied t .badArg [] o) ∧
    (payload = [] → exec (.queryInputs via payload) s = replied t .ok
      (lineIds.flatMap fun l =>
        match t.line l with
        | none => []
        | some x =>
          [if (t.lineItems l).enabled then 1 else 0, lineLevelCode x.raw,
            (match x.accepted with | none => 0xFF | some v => lineLevelCode v),
            if x.accepted = some (t.lineItems l).activeLevel then 1 else 0, if x.timer.isSome then 1 else 0]) o)

/-! ## Cue edits -/

/-- WRITE_CUE is checked in its order, each refusal with its payload and without effect; accepted, it makes the slot HELD with
the whole new record, advances the revision and answers it, and changes nothing else. -/
def Obligations.WriteCueIsCheckedAndReplacesTheSlot : Prop :=
  ∀ (via : Via) (payload : List Byte) (s t : State) (o : Origin), Taken s .other via t o →
    exec (.writeCue via payload) s =
      if t.store ≠ .idle then replied t .busy [] o
      else
        match readWriteCue payload with
        | none => replied t .badArg [] o
        | some w =>
          let x := t.slot w.slot
          if x.status = .retiring then replied t .cueRetiring [] o
          else
            match t.playOf w.slot with
            | some id => replied t .cueInUse [byte id] o
            | none =>
              if w.expected.any (· != x.revision) then replied t .stale [x.revision] o
              else
                match slotIds.find? fun m =>
                  m != w.slot && w.record.label != [] && (t.slot m).status != .free &&
                    (t.slot m).record.label == w.record.label with
                | some m => replied t .dupLabel [byte m] o
                | none =>
                  replied (t.setSlot w.slot { status := .held, revision := x.revision + 1, record := w.record }) .ok
                    [x.revision + 1] o

/-- Every status and every enumeration is spelt by the byte values of Tables 9.3b and R172, and the two records by their
fields in the order of section 9.4. A valid record with its trim, written in the bytes that READ_CUE reports it in, is read
back as itself, with the slot and the expected revision that stand before it; without its trim it is read back with trim 255;
and a pattern record is read back likewise. What WRITE_CUE and WRITE_PATTERN accept at all is valid in every field, for a slot
1..64 or 1..16. A SET_CONFIG of one item sets the field that Table 9.8 gives its code to the value that its byte, its group
list or its event set spells, and nothing else, and is malformed for any other value, code or group count; and one of several
items sets them all, one after the other, when no code comes twice and the thresholds agree at the end. -/
def Obligations.RecordsReadBackAsTheyAreReported : Prop :=
  ([Status.ok, .accepted, .ignored, .notReady, .badRequest, .badFrame, .badArg, .refused, .wrongPort, .busy, .noCue, .noPlay,
      .cueInUse, .cueRetiring, .dupLabel, .stale, .cueProtected, .playFull, .claimFull, .badToken, .notInFallback].map
        Status.code =
      [0x00, 0x01, 0x02, 0x10, 0x11, 0x12, 0x13, 0x14, 0x15, 0x16, 0x20, 0x21,
        0x22, 0x23, 0x24, 0x25, 0x26, 0x27, 0x28, 0x30, 0x31] ∧
    [SlotStatus.free, .held, .retiring].map SlotStatus.code = [0, 1, 2] ∧
    [Curve.linear, .square, .cube, .switch].map Curve.code = [0, 1, 2, 3] ∧
    (∀ n, [EndAction.sustain, .release, .repeating n, .chain n].map (fun a => (a.code, a.parameter)) =
      [(0, 0), (1, 0), (2, n), (3, n)]) ∧
    [Policy.restart, .queue, .ignore].map Policy.code = [0, 1, 2] ∧
    (∀ origins k, [Phase.delay, .ramp, .hold, .sustain, .fadeout origins k].map Phase.code = [0, 1, 2, 3, 4]) ∧
    (∀ k, [Source.buildingLink, .servicePort, .input k, .chain, .fallback, .start].map Source.bytes =
      [[0, 0], [1, 0], [2, byte k], [3, 0], [4, 0], [5, 0]]) ∧
    (∀ n, [Repeats.times n, .forever].map Repeats.code = [byte n, 0xFF]) ∧
    [SupervisorState.normal, .tripped, .locked].map SupervisorState.code = [0, 1, 2] ∧
    [ThermalState.normal, .warn, .shutdown].map ThermalState.code = [0, 1, 2] ∧
    [ResetCause.power, .pin, .request].map ResetCause.code = [0, 1, 2] ∧
    (∀ m, [LiveMode.plain .openMode, .plain .readOnly, .plain .silent, .plain .off, .offPending m].map LiveMode.code =
      [0, 1, 2, 3, 4]) ∧
    [ServiceMode.openMode, .readOnly, .silent, .off].map ServiceMode.code = [0, 1, 2, 3] ∧
    [PatternAction.trigger, .release, .toggle].map PatternAction.code = [0, 1, 2] ∧
    [EventKind.press, .release].map EventKind.code = [0, 1] ∧
    [LineLevel.low, .high].map lineLevelCode = [0, 1] ∧
    [Baud.b19200, .b38400, .b57600, .b115200].map Baud.code = [0, 1, 2, 3] ∧
    [WatchdogUnit.second, .minute].map WatchdogUnit.code = [0, 1] ∧
    [StartPolicy.dark, .startCue, .resumeSet].map StartPolicy.code = [0, 1, 2] ∧
    [Deglitch.us50, .us100, .us200, .us400].map Deglitch.code = [0, 1, 2, 3] ∧
    [Averaging.n4, .n8, .n16, .n32].map Averaging.samples = [4, 8, 16, 32] ∧
    [Debounce.ms0, .ms5, .ms20, .ms50].map Debounce.ms = [0, 5, 20, 50] ∧
    [[1, 0], [1, 1], [1, 2]].map readRetire = [some (1, false), some (1, true), none] ∧
    [[0], [1], [2], [3], [4]].map readMode = [some .openMode, some .readOnly, some .silent, some .off, none]) ∧
  (∀ r : CueRecord, r.bytes =
    [byte r.label.length] ++ r.label ++ [byte r.priority] ++ [r.curve.code] ++ [r.startStep, r.stopStep] ++ [r.stepPeriod] ++
      [r.delay.count, byte r.delay.unit.val] ++ [r.hold.count, byte r.hold.unit.val] ++
      [r.endAction.code, byte r.endAction.parameter] ++ [r.policy.code] ++ [r.releaseFade] ++ [byte r.channels.length] ++
      (r.channels.map fun e => [byte e.channel, e.scale]).flatten ++ [r.trim]) ∧
  (∀ r : PatternRecord, r.bytes =
    [if r.enabled then 1 else 0] ++ [byte r.elements.length] ++
      (r.elements.map fun e => [byte e.line, e.kind.code]).flatten ++ [byte r.window] ++ [r.action.code] ++ [byte r.cue]) ∧
  (∀ (payload : List Byte) (w : CueWrite), readWriteCue payload = some w →
    1 ≤ w.slot ∧ w.slot ≤ 64 ∧ w.record.Valid) ∧
  (∀ (payload : List Byte) (w : Nat × PatternRecord), readWritePattern payload = some w →
    1 ≤ w.1 ∧ w.1 ≤ 16 ∧ w.2.Valid) ∧
  (∀ (n : Nat) (rev : Byte) (r : CueRecord), 1 ≤ n → n ≤ 64 → r.Valid →
    readWriteCue (byte n :: 3 :: rev :: r.bytes) = some ⟨n, some rev, r⟩ ∧
      readWriteCue (byte n :: 2 :: r.bytes) = some ⟨n, none, r⟩ ∧
      readWriteCue (byte n :: 1 :: rev :: r.bytes.dropLast) = some ⟨n, some rev, { r with trim := 255 }⟩ ∧
      readWriteCue (byte n :: 0 :: r.bytes.dropLast) = some ⟨n, none, { r with trim := 255 }⟩) ∧
  (∀ (k : Nat) (r : PatternRecord), 1 ≤ k → k ≤ 16 → r.Valid → readWritePattern (byte k :: r.bytes) = some (k, r)) ∧
  (∀ (i : Items) (b : Byte), i.warn + 10 ≤ i.shutdown →
    let n := b.toNat
    let set (code : Nat) : Option Items := (readSetConfig i [byte code, b]).map i.applyAll
    set 0x01 = (if 1 ≤ n ∧ n ≤ 63 then some { i with unitAddress := n } else none) ∧
    set 0x03 = (match n with
      | 0 => some { i with baud := .b19200 } | 1 => some { i with baud := .b38400 } | 2 => some { i with baud := .b57600 }
      | 3 => some { i with baud := .b115200 } | _ => none) ∧
    set 0x10 = some { i with watchdogPeriod := b } ∧
    set 0x11 = (match n with
      | 0 => some { i with watchdogUnit := .second } | 1 => some { i with watchdogUnit := .minute } | _ => none) ∧
    set 0x12 = (if n ≤ 64 then some { i with fallbackCue := n } else none) ∧
    set 0x20 = (match n with
      | 0 => some { i with startPolicy := .dark } | 1 => some { i with startPolicy := .startCue }
      | 2 => some { i with startPolicy := .resumeSet } | _ => none) ∧
    set 0x21 = (if n ≤ 64 then some { i with startCue := n } else none) ∧
    set 0x22 = (if n ≤ 20 then some { i with settleDelay := n } else none) ∧
    set 0x23 = (match n with
      | 0 => some { i with serviceMode := .openMode } | 1 => some { i with serviceMode := .readOnly }
      | 2 => some { i with serviceMode := .silent } | 3 => some { i with serviceMode := .off } | _ => none) ∧
    set 0x30 = (if n ≤ 7 then some { i with maxRetries := n } else none) ∧
    set 0x31 = (if 1 ≤ n then some { i with retryDelay := b } else none) ∧
    set 0x32 = some { i with goodRunTime := b } ∧
    set 0x33 = (match n with
      | 0 => some { i with deglitch := .us50 } | 1 => some { i with deglitch := .us100 }
      | 2 => some { i with deglitch := .us200 } | 3 => some { i with deglitch := .us400 } | _ => none) ∧
    set 0x38 = (match n with
      | 4 => some { i with averaging := .n4 } | 8 => some { i with averaging := .n8 } | 16 => some { i with averaging := .n16 }
      | 32 => some { i with averaging := .n32 } | _ => none) ∧
    set 0x39 = (if 90 ≤ n ∧ n ≤ 140 ∧ n + 10 ≤ i.shutdown then some { i with warn := n } else none) ∧
    set 0x3A = (if 110 ≤ n ∧ n ≤ 160 ∧ i.warn + 10 ≤ n then some { i with shutdown := n } else none) ∧
    set 0x3B = (if 5 ≤ n ∧ n ≤ 20 then some { i with hysteresis := n } else none) ∧
    set 0x3C = (if 64 ≤ n then some { i with derate := n } else none) ∧
    (∀ l, 1 ≤ l → l ≤ 8 →
      let line (valid : Prop) (changed : LineItems → LineItems) (code : Nat) : Prop :=
        (¬valid → set code = none) ∧
        (valid → ∃ j, set code = some j ∧ j = { i with lines := j.lines } ∧
          ∀ m x, at1 i.lines m = some x → at1 j.lines m = some (if m = l then changed x else x))
      line (n ≤ 1) (fun x => { x with enabled := n == 1 }) (0x3F + l) ∧
      line (n ≤ 1) (fun x => { x with activeLevel := if n = 0 then .low else .high }) (0x47 + l) ∧
      line (n = 0 ∨ n = 5 ∨ n = 20 ∨ n = 50)
        (fun x => { x with debounce := if n = 0 then .ms0 else if n = 5 then .ms5 else if n = 20 then .ms20 else .ms50 })
        (0x4F + l)) ∧
    (∀ lo : Byte, (readSetConfig i [0x60, b, lo]).map i.applyAll =
      if b.msb then none else some { i with attentionMask := b ++ lo }) ∧
    (∀ gs : List Byte, gs.length ≤ 4 → (readSetConfig i (0x02 :: byte gs.length :: gs)).map i.applyAll =
      if (∀ g ∈ gs, 64 ≤ g.toNat ∧ g.toNat ≤ 95) ∧ gs.Nodup then some { i with groups := gs.map BitVec.toNat } else none) ∧
    (4 < n → ∀ rest, readSetConfig i (0x02 :: b :: rest) = none) ∧
    ∀ code, code < 256 → code ∉ [0x01, 0x02, 0x03, 0x10, 0x11, 0x12, 0x20, 0x21, 0x22, 0x23, 0x30, 0x31, 0x32, 0x33, 0x38, 0x39,
      0x3A, 0x3B, 0x3C, 0x60] → ¬(0x40 ≤ code ∧ code ≤ 0x57) → ∀ rest, readSetConfig i (byte code :: rest) = none) ∧
  ∀ (i j k : Items) (a b : List Byte) (ea eb : List ConfigEntry), readSetConfig j a = some ea → readSetConfig k b = some eb →
    let both := (i.applyAll ea).applyAll eb
    i.applyAll (ea ++ eb) = both ∧
      readSetConfig i (a ++ b) =
        if ((ea ++ eb).map ConfigEntry.code).Nodup ∧ both.warn + 10 ≤ both.shutdown then some (ea ++ eb) else none

/-- SET_TRIM is checked in its order; accepted, it replaces the trim alone, advances the revision and answers it, and the
output levels follow in the same action. -/
def Obligations.SetTrimIsCheckedAndReplacesTheTrim : Prop :=
  ∀ (via : Via) (payload : List Byte) (s t : State) (o : Origin), Taken s .other via t o →
    exec (.setTrim via payload) s =
      if t.store ≠ .idle then replied t .busy [] o
      else
        match readSetTrim payload with
        | none => replied t .badArg [] o
        | some (n, trim, expected) =>
          let x := t.slot n
          if x.status = .free then replied t .noCue [] o
          else if x.status = .retiring then replied t .cueRetiring [] o
          else if expected.any (· != x.revision) then replied t .stale [x.revision] o
          else
            replied (State.drive (t.setSlot n
              { x with revision := x.revision + 1, record := { x.record with trim := trim } })) .ok [x.revision + 1] o

/-- RETIRE_CUE is refused in its order, without effect: BUSY, BAD_ARG, NO_CUE, CUE_RETIRING, PROTECTED. -/
def Obligations.RetireCueIsRefusedInItsOrder : Prop :=
  ∀ (via : Via) (payload : List Byte) (s t : State) (o : Origin), Taken s .other via t o →
    (t.store ≠ .idle → exec (.retireCue via payload) s = replied t .busy [] o) ∧
    (t.store = .idle → readRetire payload = none → exec (.retireCue via payload) s = replied t .badArg [] o) ∧
    ∀ n graceful, t.store = .idle → readRetire payload = some (n, graceful) →
      ((t.slot n).status = .free → exec (.retireCue via payload) s = replied t .noCue [] o) ∧
      ((t.slot n).status = .retiring → exec (.retireCue via payload) s = replied t .cueRetiring [] o) ∧
      ((t.slot n).status = .held →
        (t.config.fallbackCue = n ∨ ∃ p, t.play 24 = some p ∧ p.source = .fallback ∧ p.cue = n) →
        exec (.retireCue via payload) s = replied t .cueProtected [] o)

/-- An accepted RETIRE_CUE frees a HELD slot without a play, and in IMMEDIATE mode ends the play and frees the slot: empty
record, revision kept. In GRACEFUL mode with a play the slot becomes RETIRING with its record kept, the pending restart is
cleared, and a play in SUSTAIN is released while any other runs on. -/
def Obligations.AcceptedRetiresFreeTheSlotOrLetItRunDown : Prop :=
  ∀ (via : Via) (s t : State) (o : Origin) (payload : List Byte) (n : Nat) (graceful : Bool),
    Taken s .other via t o → t.store = .idle → readRetire payload = some (n, graceful) → (t.slot n).status = .held →
    t.config.fallbackCue ≠ n → (∀ p, t.play 24 = some p → p.source = .fallback → p.cue ≠ n) →
    ∃ u, exec (.retireCue via payload) s = replied u .ok [] o ∧ PlaySide t u ∧ SameEvents t u ∧ ChannelsFollow t u ∧
      (∀ m, m ≠ n → u.slot m = t.slot m) ∧
      (t.playOf n = none → u.slot n = (t.slot n).freed ∧ u.plays = t.plays ∧ u.claims = t.claims) ∧
      ∀ id p, t.playOf n = some id → t.play id = some p →
        OtherPlaysStand t u id ∧
        (graceful = false → u.slot n = (t.slot n).freed ∧ u.play id = none ∧
          ∀ c, u.claimList c = (t.claimList c).filter (· != id)) ∧
        (graceful = true → p.phase ≠ .sustain → u.slot n = { t.slot n with status := .retiring } ∧
          u.play id = some { p with pendingRestart := false } ∧ u.claims = t.claims) ∧
        (graceful = true → p.phase = .sustain →
          Released (t.setSlot n { t.slot n with status := .retiring }) u id { p with pendingRestart := false })

/-! ## Triggers, releases, freezing -/

/-- A play begins at the start of its cue's profile. -/
def Obligations.APlayBeginsAtTheStartOfItsProfile : Prop :=
  ∀ (r : CueRecord) (cue priority : Nat) (source : Source),
    let p := r.begin cue source priority
    p.cue = cue ∧ p.source = source ∧ p.priority = priority ∧ p.step = r.startStep ∧ p.pendingRestart = false ∧
      (r.delay.count = 0 → p.phase = .ramp ∧ p.timer = r.stepPeriod.toNat) ∧
      (r.delay.count ≠ 0 → p.phase = .delay ∧ p.timer = r.delay.count.toNat * unitMs r.delay.unit) ∧
      p.repeats = (match r.endAction with
        | .repeating n => if n = 0 then .forever else .times n
        | .sustain | .release | .chain _ => .times 0)

/-- A TRIGGER that is refused at checks 3 to 6, 8 and 9 changes nothing; in a group or broadcast frame a refusal from check 4
on raises TRIGGER_REFUSED and replaces the last-refusal record. -/
def Obligations.RefusedTriggersChangeNothingButTheRefusalRecord : Prop :=
  ∀ (via : Via) (payload : List Byte) (s t : State) (o : Origin), Taken s .other via t o →
    (readTrigger payload = none → exec (.trigger via payload) s = replied t .badArg [] o) ∧
    ∀ n override, readTrigger payload = some (n, override) →
      let refusal (st : Status) (c : Nat) : Host.Outcome State Fault Refusal :=
        replied (if o = .group then
          { t with flags := t.flags ||| 0x0002, lastRefusal := some ⟨n, .buildingLink, st, c⟩ } else t) st [] o
      ((t.slot n).status = .free → exec (.trigger via payload) s = refusal .noCue 0) ∧
      ((t.slot n).status = .retiring → exec (.trigger via payload) s = refusal .cueRetiring 0) ∧
      (∀ id p, (t.slot n).status = .held → t.playOf n = some id → t.play id = some p → p.source = .fallback →
        exec (.trigger via payload) s = refusal .cueProtected 0) ∧
      ((t.slot n).status = .held → t.playOf n = none → 23 ≤ t.ordinaryTotal →
        exec (.trigger via payload) s = refusal .playFull 0) ∧
      (∀ c, (t.slot n).status = .held → t.playOf n = none → t.ordinaryTotal < 23 →
        t.admissionCheck (t.slot n).record.channelNumbers (override.getD (t.slot n).record.priority) = .fails c →
        exec (.trigger via payload) s = refusal .claimFull c)

/-- A TRIGGER of a cue with an ordinary play applies the cue's policy to it: RESTART restarts the play with the trigger's
source and priority, QUEUE sets its pending restart and nothing else, and IGNORE has no effect and is answered IGNORED. -/
def Obligations.RetriggersFollowThePolicy : Prop :=
  ∀ (via : Via) (payload : List Byte) (s t : State) (o : Origin) (n id : Nat) (override : Option Nat) (p : Play),
    Taken s .other via t o → readTrigger payload = some (n, override) → (t.slot n).status = .held →
    t.playOf n = some id → t.play id = some p → p.source ≠ .fallback →
    ((t.slot n).record.policy = .restart →
      ∃ u, exec (.trigger via payload) s = replied u .ok [byte id] o ∧ PlaySide t u ∧ SameEvents t u ∧
        ChannelsFollow t u ∧ OtherPlaysStand t u id ∧
        Restarted t u id p (if o = .servicePort then .servicePort else .buildingLink)
          (override.getD (t.slot n).record.priority)) ∧
    ((t.slot n).record.policy = .queue →
      ∃ u, exec (.trigger via payload) s = replied u .ok [byte id] o ∧ PlaySide t u ∧ SameEvents t u ∧
        ChannelsFollow t u ∧ OtherPlaysStand t u id ∧ u.play id = some { p with pendingRestart := true } ∧
        u.claims = t.claims ∧ u.slots = t.slots) ∧
    ((t.slot n).record.policy = .ignore → exec (.trigger via payload) s = replied t .ignored [byte id] o)

/-- A TRIGGER of a HELD cue without a play, with 22 ordinary plays or fewer and an admission check that admits, makes the play
in the lowest free id of those left after the evictions, at the start of its profile; the marked plays end, in order, each
with EVICTION and the last-eviction record, and the slot of one of them that was RETIRING becomes FREE. On each channel of the
cue its claim is placed directly behind the last claim of strictly higher priority, and so ahead of every claim of equal or
lower priority; on every other channel nothing arrives. -/
def Obligations.AdmittedTriggersMakeAPlay : Prop :=
  (∀ (higher : Nat → Bool) (id : Nat) (claims : List Nat), ∃ front back, claims = front ++ back ∧
    place higher id claims = front ++ id :: back ∧ (∀ last, front.getLast? = some last → higher last = true) ∧
    ∀ j ∈ back, higher j = false) ∧
  ∀ (via : Via) (payload : List Byte) (s t : State) (o : Origin) (n : Nat) (override : Option Nat) (marks : List Nat),
    let r := (t.slot n).record
    let priority := override.getD r.priority
    Taken s .other via t o → readTrigger payload = some (n, override) → (t.slot n).status = .held →
    t.playOf n = none → t.ordinaryTotal < 23 → FallbackKept t →
    t.admissionCheck r.channelNumbers priority = .admits marks → (∀ e ∈ marks, (t.play e).isSome = true) → marks.Nodup →
    ∃ id u, exec (.trigger via payload) s = replied u .ok [byte id] o ∧ PlaySide t u ∧ ChannelsFollow t u ∧
      1 ≤ id ∧ id ≤ 23 ∧ (t.play id = none ∨ id ∈ marks) ∧ (∀ j, 1 ≤ j → j < id → j ∉ marks ∧ t.play j ≠ none) ∧
      u.play id = some (r.begin n (if o = .servicePort then .servicePort else .buildingLink) priority) ∧
      (∀ e ∈ marks, e ≠ id → u.play e = none) ∧ (∀ j, j ∉ marks → j ≠ id → u.play j = t.play j) ∧
      (∀ c ∈ channelIds, u.claimList c =
        if c ∈ r.channelNumbers then
          place (fun j => decide (priority < u.priorityOf j)) id
            (((t.claimList c).filter (fun j => decide (j ∉ marks))).filter (· != id))
        else (t.claimList c).filter fun j => decide (j ∉ marks)) ∧
      Evicted t u n marks

/-- The admission check visits the cue's channels in the order of its list. A channel passes with fewer than six claims, or
when the last claim's priority is strictly below the priority asked for; the first channel that does not pass is the failing
channel. When every channel passes it marks exactly the plays that the last claims of the full lists name, each once. They are
marked in the order of the channels, each at the first channel whose last claim names it. In the chain variant the chaining
play's own claim counts as absent on every channel. -/
def Obligations.AdmissionCheckJudgesTheLastClaimOfFullLists : Prop :=
  ∀ (s : State) (cs : List Nat) (p : Nat) (absent : Option Nat),
    let judged (c : Nat) : List Nat := (s.claimList c).filter fun id => some id != absent
    let passes (c : Nat) : Prop :=
      (judged c).length < 6 ∨ ∃ e, (judged c).getLast? = some e ∧ s.priorityOf e < p
    (absent = none → ∀ c, judged c = s.claimList c) ∧
    (∀ c, s.admissionCheck cs p absent = .fails c ↔
      ∃ before after, cs = before ++ c :: after ∧ (∀ d ∈ before, passes d) ∧ ¬passes c) ∧
    ((∃ marks, s.admissionCheck cs p absent = .admits marks) ↔ ∀ c ∈ cs, passes c) ∧
    ∀ marks, s.admissionCheck cs p absent = .admits marks →
      marks.Nodup ∧ (∀ e, e ∈ marks ↔ ∃ c ∈ cs, 6 ≤ (judged c).length ∧ (judged c).getLast? = some e) ∧
      marks = (cs.filterMap fun c => if 6 ≤ (judged c).length then (judged c).getLast? else none).foldl
        (fun found e => if e ∈ found then found else found ++ [e]) []

/-- RELEASE is refused BAD_ARG, NO_PLAY and PROTECTED in that order, without effect; accepted, it clears the play's pending
restart and releases a play that stands before FADEOUT, while a fade goes on. -/
def Obligations.ReleaseReleasesThePlayOfACue : Prop :=
  ∀ (via : Via) (payload : List Byte) (s t : State) (o : Origin), Taken s .other via t o →
    (readOne 1 64 payload = none → exec (.release via payload) s = replied t .badArg [] o) ∧
    ∀ n, readOne 1 64 payload = some n →
      (t.playOf n = none → exec (.release via payload) s = replied t .noPlay [] o) ∧
      ∀ id p, t.playOf n = some id → t.play id = some p →
        (p.source = .fallback → exec (.release via payload) s = replied t .cueProtected [] o) ∧
        (p.source ≠ .fallback →
          ∃ u, exec (.release via payload) s = replied u .ok [byte id] o ∧ PlaySide t u ∧ SameEvents t u ∧
            ChannelsFollow t u ∧ OtherPlaysStand t u id ∧
            (p.phase.beforeFade = true → Released t u id { p with pendingRestart := false }) ∧
            (p.phase.beforeFade = false → u.play id = some { p with pendingRestart := false } ∧
              u.claims = t.claims ∧ u.slots = t.slots))

/-- RELEASE_ALL(p) answers how many ordinary plays of priority p or below there are, and releases exactly those. Each that
stood before FADEOUT enters it with its present levels as origin levels, or, with release fade 0, ends: its record is free,
its claims leave every list, and its slot becomes FREE if it was RETIRING. Each that stood in FADEOUT fades on with its
pending restart cleared. Every other play, claim and slot stands as it stood. -/
def Obligations.ReleaseAllReleasesThePlaysUpToAPriority : Prop :=
  ∀ (via : Via) (payload : List Byte) (s t : State) (o : Origin), Taken s .other via t o →
    (readOne 0 15 payload = none → exec (.releaseAll via payload) s = replied t .badArg [] o) ∧
    ∀ p, readOne 0 15 payload = some p →
      let acted (x : Play) : Bool := x.source != .fallback && decide (x.priority ≤ p)
      let ends (id : Nat) : Bool := (t.play id).any fun x =>
        acted x && x.phase.beforeFade && (t.recordOf x).releaseFade == 0
      ∃ u, exec (.releaseAll via payload) s =
          replied u .ok [byte (playIds.filter fun id => (t.play id).any acted).length] o ∧
        PlaySide t u ∧ SameEvents t u ∧ ChannelsFollow t u ∧
        (∀ id x, t.play id = some x →
          (acted x = false → u.play id = some x) ∧
          (acted x = true → ∀ y, u.play id = some y → y.phase.beforeFade = false ∧ y.pendingRestart = false)) ∧
        (ClaimsKept t →
          (∀ id, t.play id = none → u.play id = none) ∧
          (∀ id x, t.play id = some x → acted x = true →
            let r := t.recordOf x
            (ends id = true → u.play id = none) ∧
            (x.phase.beforeFade = true → r.releaseFade ≠ 0 → u.play id = some
              { x with
                pendingRestart := false
                phase := .fadeout (r.channels.map fun e => ⟨e.channel, playLevel r x e.channel⟩) 0
                timer := r.stepPeriod.toNat }) ∧
            (x.phase.beforeFade = false → u.play id = some { x with pendingRestart := false })) ∧
          (∀ c, u.claimList c = (t.claimList c).filter fun id => !ends id) ∧
          ∀ n, u.slot n =
            if (t.slot n).status = .retiring ∧ playIds.any (fun id => ends id && (t.play id).any (·.cue == n)) then
              (t.slot n).freed
            else t.slot n)

/-- FREEZE sets the frozen flag and THAW clears it, whatever it was, and each changes nothing else. -/
def Obligations.FreezeAndThawSetTheFrozenFlag : Prop :=
  ∀ (via : Via) (s t : State) (o : Origin), Taken s .other via t o →
    exec (.freeze via []) s = replied { t with frozen := true } .ok [] o ∧
    exec (.thaw via []) s = replied { t with frozen := false } .ok [] o ∧
    ∀ payload, payload ≠ [] → exec (.freeze via payload) s = replied t .badArg [] o ∧
      exec (.thaw via payload) s = replied t .badArg [] o

/-! ## Patterns, faults, configuration -/

/-- WRITE_PATTERN is refused BUSY and then BAD_ARG; accepted, it replaces the whole record of the slot, with progress 0 and
the window stopped, and changes nothing else. -/
def Obligations.WritePatternReplacesTheRecord : Prop :=
  ∀ (via : Via) (payload : List Byte) (s t : State) (o : Origin), Taken s .other via t o →
    exec (.writePattern via payload) s =
      if t.store ≠ .idle then replied t .busy [] o
      else
        match readWritePattern payload with
        | none => replied t .badArg [] o
        | some (k, r) => replied (t.setPattern k { record := r, progress := 0, window := none }) .ok [] o

/-- CLEAR_FAULT names 1 to 16 channels, none twice, or is refused BAD_ARG. Each channel named becomes NORMAL with count 0, its
flag clear, its retry timer stopped and every persistence started afresh; it drives its owner's present level, with its good-
run timer from 0. The other channels stand as they stood. It is taken while the store is SAVING too. -/
def Obligations.ClearFaultReturnsTheNamedChannelsToNormal : Prop :=
  ∀ (via : Via) (payload : List Byte) (s t : State) (o : Origin), Taken s .other via t o →
    let named := payload.map BitVec.toNat
    let valid := 1 ≤ named.length ∧ named.length ≤ 16 ∧ (∀ c ∈ named, 1 ≤ c ∧ c ≤ 16) ∧ named.Nodup
    (¬valid → exec (.clearFault via payload) s = replied t .badArg [] o) ∧
    (valid → LevelsFollowTheOwners t → (∀ x ∈ t.channels.toList, x.Kept) →
      ∃ u, exec (.clearFault via payload) s = replied u .ok [] o ∧ u = { t with channels := u.channels } ∧
        ∀ c x, t.channel c = some x → ∃ y, u.channel c = some y ∧ y.level = u.outputLevel c y.state ∧
          (c ∉ named → y = x) ∧
          (c ∈ named → y.state = .normal ∧ y.retryCount = 0 ∧ y.openLoadFlag = false ∧ y.retryTimer = none ∧
            y.goodRun = (if y.level = 0 ∨ t.config.goodRunTime = 0 then none else some 0) ∧
            y.overcurrent = ⟨x.overcurrent.reported, if x.overcurrent.reported ∧ 1 ≤ y.level then some 0 else none⟩ ∧
            y.short = ⟨x.short.reported, if x.short.reported ∧ 1 ≤ y.level then some 0 else none⟩ ∧
            y.openLoad = ⟨x.openLoad.reported, if x.openLoad.reported ∧ 64 ≤ y.level then some 0 else none⟩))

/-- SET_CONFIG is refused BUSY, and BAD_ARG for an empty payload, one that does not divide into entries of known items in
range, an item named twice, or thresholds less than 10 apart. Accepted, it applies every entry, and touches nothing but the
configuration, the live effects of the items and, for a unit address given by unicast, the reply that the change waits for.
When the address acts is log 11. -/
def Obligations.SetConfigAppliesAllEntriesOrNone : Prop :=
  ∀ (via : Via) (payload : List Byte) (s t : State) (o : Origin), Taken s .other via t o →
    (t.store ≠ .idle → exec (.setConfig via payload) s = replied t .busy [] o) ∧
    (t.store = .idle → readSetConfig t.config payload = none → exec (.setConfig via payload) s = replied t .badArg [] o) ∧
    ∀ es, t.store = .idle → readSetConfig t.config payload = some es →
      es ≠ [] ∧ (es.map ConfigEntry.code).Nodup ∧ (t.config.applyAll es).warn + 10 ≤ (t.config.applyAll es).shutdown ∧
      ∃ u r d, exec (.setConfig via payload) s = .next (Answer.send { state := u, reply := r, deferred := d } o) ∧
        r = ⟨.ok, []⟩ ∧ d.reset = false ∧
        u = { t with
          config := t.config.applyAll es, linkAddress := u.linkAddress, watchdog := u.watchdog, thermal := u.thermal,
          lines := u.lines, channels := u.channels } ∧
        (0x01 ∈ es.map ConfigEntry.code → if o = .unicast then
            u.linkAddress = t.linkAddress ∧ d.address = some (t.config.applyAll es).unitAddress
          else u.linkAddress = (t.config.applyAll es).unitAddress ∧ d.address = none) ∧
        (0x01 ∉ es.map ConfigEntry.code → u.linkAddress = t.linkAddress ∧ d.address = none) ∧
        (if 0x10 ∈ es.map ConfigEntry.code ∨ 0x11 ∈ es.map ConfigEntry.code then
            u.watchdog = (if t.fallbackOn = false ∧ (t.config.applyAll es).watchdogPeriod ≠ 0 then
              some (t.config.applyAll es).watchdogMicros else none)
          else u.watchdog = t.watchdog) ∧
        u.thermal = (if 0x38 ∈ es.map ConfigEntry.code then { t.thermal with sum := 0, count := 0 } else t.thermal) ∧
        ∀ l x, t.line l = some x → u.line l = some
          (if 0x3F + l ∈ es.map ConfigEntry.code ∨ 0x47 + l ∈ es.map ConfigEntry.code ∨ 0x4F + l ∈ es.map ConfigEntry.code then
            { x with accepted := if (u.lineItems l).enabled then some x.raw else none, timer := none }
          else x)

/-- A SET_CONFIG of the fault deglitch discards every persistence, and a condition still reported and sensed starts from 0;
one of the good-run time runs the timer of every NORMAL channel with a nonzero level from 0, or stops every timer when the
time is 0. -/
def Obligations.DeglitchAndGoodRunChangesActOnEveryChannel : Prop :=
  ∀ (via : Via) (payload : List Byte) (s t : State) (o : Origin) (es : List ConfigEntry), Taken s .other via t o →
    t.store = .idle → readSetConfig t.config payload = some es → ChannelsKept t →
    ∃ u d, exec (.setConfig via payload) s = .next (Answer.send { state := u, reply := ⟨.ok, []⟩, deferred := d } o) ∧
      LevelsFollowTheOwners u ∧
      ∀ c x, t.channel c = some x → ∃ y, u.channel c = some y ∧ y.state = x.state ∧ y.retryCount = x.retryCount ∧
        y.retryTimer = x.retryTimer ∧ y.openLoadFlag = x.openLoadFlag ∧
        (0x33 ∈ es.map ConfigEntry.code →
          y.overcurrent.persistence = (if x.overcurrent.reported ∧ 1 ≤ y.level then some 0 else none) ∧
          y.short.persistence = (if x.short.reported ∧ 1 ≤ y.level then some 0 else none) ∧
          y.openLoad.persistence =
            (if x.openLoad.reported ∧ 64 ≤ y.level ∧ x.openLoadFlag = false then some 0 else none)) ∧
        (0x32 ∈ es.map ConfigEntry.code →
          y.goodRun = (if y.state = .normal ∧ y.level ≠ 0 ∧ u.config.goodRunTime ≠ 0 then some 0 else none))

/-! ## The store -/

/-- SAVE carries no payload, or is answered BAD_ARG; during a save it is answered BUSY; accepted, it makes the store SAVING
with the requesting port as owner, marks the check word invalid and the image not valid, and is answered ACCEPTED. What it
will write is the working tables as they stand, with a RETIRING slot as FREE. SNAPSHOT_RESUME is checked alike and replaces
the working resume set by the first 8 cues, in ascending order, of the ordinary plays in SUSTAIN. -/
def Obligations.SaveAndSnapshotAreCheckedAndTaken : Prop :=
  ∀ (via : Via) (payload : List Byte) (s t : State) (o : Origin), Taken s .other via t o →
    let sustained := (slotIds.filter fun n => playIds.any fun id => (t.play id).any fun p =>
      p.cue == n && p.source != .fallback && p.phase == .sustain).take 8
    (payload ≠ [] → exec (.save via payload) s = replied t .badArg [] o ∧
      exec (.snapshotResume via payload) s = replied t .badArg [] o) ∧
    (payload = [] → t.store ≠ .idle → exec (.save via payload) s = replied t .busy [] o ∧
      exec (.snapshotResume via payload) s = replied t .busy [] o) ∧
    (payload = [] → t.store = .idle →
      (∃ m : Image, exec (.save via payload) s = replied
          { t with
            store := .saving (if o = .servicePort then .servicePort else .buildingLink) m
            checkGood := false
            imageValid := false } .accepted [] o ∧
        m.config = t.config ∧ m.resume = t.resumeSet ∧
        (∀ k x, t.pattern k = some x → at1 m.patterns k = some x.record) ∧
        ∀ n ∈ slotIds, at1 m.slots n =
          some (if (t.slot n).status = .held then t.slot n
            else { status := .free, revision := (t.slot n).revision, record := CueRecord.empty })) ∧
      exec (.snapshotResume via payload) s =
        replied { t with resumeSet := sustained } .ok [byte sustained.length] o)

/-- At the completion of a save the store holds the contents taken at its acceptance under a good check word, the image is
valid and SAVE_DONE is raised; at its failure the check word and the flag stay as the acceptance left them and SAVE_FAILED is
raised. In both the store is IDLE, and a deferred entry to OFF takes effect and discards a ready reply. The working tables are
unchanged. Where the contents stand meanwhile, and that a preparing reply outlives the entry to OFF, are logs 16 and 17. -/
def Obligations.ASaveEndsByCompletionOrFailure : Prop :=
  ∀ (s : State) (owner : Port) (m : Image), s.store = .saving owner m →
    let off (u : State) : State :=
      match s.serviceMode with
      | .plain _ => u
      | .offPending _ => { u with
          serviceMode := .plain .off
          spReply := if s.spReply = .preparing then .preparing else .none
          spReading := match s.spReply with | .ready _ => s.spReading.map fun _ => [] | _ => s.spReading }
    exec .saveCompletion s = .next (off { s with
      store := .idle, image := m, checkGood := true, imageValid := true, flags := s.flags ||| 0x0400 }) ∧
    exec .saveFailure s = .next (off { s with store := .idle, flags := s.flags ||| 0x0800 })

/-! ## Events, fallback exit, service mode, reset request -/

/-- CLEAR_EVENTS clears exactly the flags it names and leaves the mask and both records, and a payload that is no event set is
answered BAD_ARG. In every state, while STARTING too, ATN is low exactly while a flag is set whose mask bit is set. -/
def Obligations.ClearEventsClearsTheNamedFlags : Prop :=
  (∀ s : State, s.atnLow = true ↔ ∃ i : Fin 16, s.flags.getLsbD i = true ∧ s.config.attentionMask.getLsbD i = true) ∧
  ∀ (via : Via) (s t : State) (o : Origin), Taken s .other via t o →
    (∀ hi lo : Byte, hi.msb = false →
      exec (.clearEvents via [hi, lo]) s = replied { t with flags := t.flags &&& ~~~(hi ++ lo) } .ok [] o) ∧
    ∀ payload, readEvents payload = none → exec (.clearEvents via payload) s = replied t .badArg [] o

/-- FALLBACK_EXIT is refused BAD_ARG, NOT_IN_FALLBACK and BAD_TOKEN in that order. Accepted, it turns the fallback flag off,
releases the fallback play, restarts the watchdog where it runs, and keeps the entry count and the frozen flag. -/
def Obligations.FallbackExitNeedsItsToken : Prop :=
  ∀ (via : Via) (s t : State) (o : Origin), Taken s .linkOnly via t o →
    (∀ payload, readToken payload = none → exec (.fallbackExit via payload) s = replied t .badArg [] o) ∧
    ∀ token : Byte,
      (t.fallbackOn = false → exec (.fallbackExit via [token]) s = replied t .notInFallback [] o) ∧
      (t.fallbackOn = true → token ≠ t.entryCount → exec (.fallbackExit via [token]) s = replied t .badToken [] o) ∧
      (t.fallbackOn = true → token = t.entryCount →
        ∃ u, exec (.fallbackExit via [token]) s = replied u .ok [] o ∧
          PlaySide { t with fallbackOn := false, watchdog := u.watchdog } u ∧ SameEvents t u ∧ ChannelsFollow t u ∧
          u.watchdog = (if t.config.watchdogPeriod ≠ 0 then some t.config.watchdogMicros else t.watchdog) ∧
          OtherPlaysStand t u 24 ∧
          (t.play 24 = none → u.play 24 = none ∧ u.claims = t.claims ∧ u.slots = t.slots) ∧
          ∀ p, t.play 24 = some p →
            (p.phase.beforeFade = true → Released t u 24 p) ∧
            (p.phase.beforeFade = false → u.play 24 = some p ∧ u.claims = t.claims ∧ u.slots = t.slots))

/-- SET_SERVICE_MODE takes the mode at once, OFF discarding a ready reply, except that OFF during a save that the Service Port
owns is deferred and answered ACCEPTED while the port behaves as before. It is answered BAD_ARG for any other mode. That a
preparing reply stays is log 17. -/
def Obligations.ServiceModeIsSetOrDeferred : Prop :=
  ∀ (via : Via) (s t : State) (o : Origin), Taken s .linkOnly via t o →
    (∀ payload, readMode payload = none → exec (.setServiceMode via payload) s = replied t .badArg [] o) ∧
    ∀ payload mode, readMode payload = some mode →
      (mode ≠ .off → exec (.setServiceMode via payload) s = replied { t with serviceMode := .plain mode } .ok [] o) ∧
      (mode = .off → (∀ m, t.store ≠ .saving .servicePort m) →
        exec (.setServiceMode via payload) s = replied
          { t with
            serviceMode := .plain .off
            spReply := match t.spReply with | .ready _ => .none | .none => .none | .preparing => .preparing
            spReading := match t.spReply with | .ready _ => t.spReading.map fun _ => [] | _ => t.spReading } .ok [] o) ∧
      (mode = .off → (∃ m, t.store = .saving .servicePort m) →
        ∃ u, exec (.setServiceMode via payload) s = replied u .accepted [] o ∧
          u = { t with serviceMode := u.serviceMode } ∧ u.serviceMode = .offPending t.serviceMode.behaves ∧
          u.serviceMode.behaves = t.serviceMode.behaves)

/-- A RESET that passes its checks is answered OK: by unicast the reset waits for the reply, and in a group or broadcast frame
it is taken at once with cause REQUEST. A RESET that carries bytes is answered BAD_ARG and resets nothing. A reset leaves the
part loading, with the store and the raw levels as they stood; that the resume set stands is log 12. -/
def Obligations.ResetRequestsWaitForTheirReply : Prop :=
  ∀ (via : Via) (s t : State) (o : Origin), Taken s .linkOnly via t o →
    (∀ payload, payload ≠ [] → exec (.reset via payload) s = replied t .badArg [] o) ∧
    (o = .unicast → exec (.reset via []) s = .next { t with linkReply := .waiting ⟨.ok, []⟩ ⟨none, true⟩ }) ∧
    (o = .group → ∃ u, exec (.reset via []) s = .next u ∧ ResetFrom t u .request)

/-! ## The Building Link and the Service Port -/

/-- The receiver: a 5Ah byte while it hunts starts a frame; a gap or a byte error in a frame, and a frame whose check fails,
abandon it with LINK_ERROR; while it hunts a byte error is discarded. A byte or a whole frame that comes while a reply waits
drops the reply first, with its unit address or its reset, and is then received. That a byte error is then in a frame, and
that a 5Ah byte whose start bit begins the waiting reset is taken as a sync byte after it, are the model's choice (log 9), as
is that a failed frame whose start bit begins that reset raises LINK_ERROR after it (log 8). While a reply is sent, or in
reset, nothing is received. That a sync byte and a failed check act whatever the receiver's state, and that a stray gap has no
effect, are logs 21 and 1. A reset leaves the part loading, with the store and the raw levels as they stood; that the resume
set stands is log 12. -/
def Obligations.TheReceiverHuntsReceivesAndAbandons : Prop :=
  ∀ s : State,
    (s.stage ≠ .held → s.linkReply = .idle →
      exec .linkSyncByte s = .next { s with receiver := .receiving } ∧
      exec .linkFrameCheckFailed s = .next { s with receiver := .hunting, flags := s.flags ||| 0x2000 } ∧
      (s.receiver = .receiving →
        exec .linkGapExpiry s = .next { s with receiver := .hunting, flags := s.flags ||| 0x2000 } ∧
        exec .linkByteError s = .next { s with receiver := .hunting, flags := s.flags ||| 0x2000 }) ∧
      (s.receiver = .hunting → exec .linkGapExpiry s = .next s ∧ exec .linkByteError s = .next s)) ∧
    (∀ r d, s.stage ≠ .held → s.linkReply = .waiting r d →
      let dropped : State := { s with linkReply := .idle, linkAddress := d.address.getD s.linkAddress }
      (s.receiver = .hunting → exec .linkGapExpiry s = .next s) ∧
      (d.reset = false →
        exec .linkSyncByte s = .next { dropped with receiver := .receiving } ∧
        exec .linkByteError s = .next { dropped with receiver := .hunting, flags := s.flags ||| 0x2000 } ∧
        exec .linkFrameCheckFailed s = .next { dropped with receiver := .hunting, flags := s.flags ||| 0x2000 }) ∧
      (d.reset = true → ∃ v, ResetFrom s v .request ∧
        exec .linkSyncByte s = .next { v with receiver := .receiving } ∧ exec .linkByteError s = .next v ∧
        exec .linkFrameCheckFailed s = .next { v with flags := 0x2000 })) ∧
    ((s.stage = .held ∨ ∃ f d, s.linkReply = .sending f d) →
      exec .linkSyncByte s = .next s ∧ exec .linkGapExpiry s = .next s ∧ exec .linkByteError s = .next s ∧
      exec .linkFrameCheckFailed s = .next s ∧ ∀ address, exec (.frameForAnotherUnit address) s = .next s ∧
        s.receive (.link address) = (s, none))

/-- The reply is sent as a frame from the unit's address + 80h. When it has been sent the receiver hunts again, and when a
start bit drops it while it waits the receiver takes that byte as the start of a frame; in both a deferred address change
takes effect, and a deferred reset begins with cause REQUEST. That the receiver then receives is log 9, and that a reply
leaves from the address in force when its sending begins, also after a change of it while the reply waited, is the model's
choice (log 21). The CRC-8 gives the worked frames of chapters 08 and 09. A reset leaves the part loading, with the store and
the raw levels as they stood; that the resume set stands is log 12. -/
def Obligations.RepliesAreSentOrDroppedWithTheirEffects : Prop :=
  ∀ (s : State) (r : Reply) (d : Deferred) (frame : List Byte),
    (s.linkReply = .waiting r d →
      exec .replyStart s = .next { s with
        linkReply := .sending (0x5A :: byte (s.linkAddress + 0x80) :: byte r.payload.length :: r.status.code :: r.payload ++
          [crc8 (byte (s.linkAddress + 0x80) :: byte r.payload.length :: r.status.code :: r.payload)]) d } ∧
      (d.reset = false → exec .replyDropped s = .next { s with
        linkReply := .idle, linkAddress := d.address.getD s.linkAddress, receiver := .receiving }) ∧
      (d.reset = true → ∃ u, exec .replyDropped s = .next u ∧ ResetFrom s u .request)) ∧
    (s.linkReply = .sending frame d →
      (d.reset = false → exec .replySent s = .next { s with
        linkReply := .idle, linkAddress := d.address.getD s.linkAddress, receiver := .hunting }) ∧
      (d.reset = true → ∃ u, exec .replySent s = .next u ∧ ResetFrom s u .request)) ∧
    crc8 [0x01] = 0x07 ∧ crc8 [0x01, 0x00] = 0x15 ∧ crc8 [0x01, 0x00, 0x05] = 0x70 ∧ crc8 [0xFF, 0x00] = 0xD7 ∧
    crc8 [0x03, 0x01, 0x30, 0x0C] = 0x8C ∧ (Reply.mk .ok [2]).frame 3 = [0x5A, 0x83, 0x01, 0x00, 0x02, 0x6E]

/-- The Service Port acknowledges its own address while it listens. An acknowledged write makes the pending reply preparing; a
read supplies PENDING or the ready reply from its first byte, padded with FFh, keeps it, and goes on until the controller ends
it by a byte it does not acknowledge or a stop condition, after which no further byte is supplied; a start condition ends what
was under way. At its end an acknowledged write is taken while the port listens, and then nothing changes before its request
is acted on, a malformed one is answered BAD_FRAME and an aborted one leaves no reply; while the port does not listen none is
taken and no reply is left. A write whose address was not acknowledged is not taken. The two observation fields, reads as
commands and whole writes as commands are logs 18 and 10. -/
def Obligations.ServicePortTransactions : Prop :=
  ∀ (s : State) (target : BitVec 7) (count : Nat) (ends : Bool),
    let listens := s.stage ≠ .held ∧ (s.serviceMode.behaves = .openMode ∨ s.serviceMode.behaves = .readOnly)
    let begun : State :=
      { s with
        spWrite := .none, spReading := none, spReply := if s.spWrite = .acknowledged then .none else s.spReply }
    let reply := match begun.spReply with
      | .ready r => r.status.code :: byte r.payload.length :: r.payload ++
          [crc8 (r.status.code :: byte r.payload.length :: r.payload)]
      | .none => [0xFF, 0x00, 0xD7]
      | .preparing => [0xFF, 0x00, 0xD7]
    let supplied (left : List Byte) : List Byte := left.take count ++ List.replicate (count - left.length) 0xFF
    (listens → target = s.spAddress →
      exec (.spWriteStart target) s = .next { begun with spAck := true, spReply := .preparing, spWrite := .acknowledged } ∧
      exec (.spRead (some target) ⟨count, ends⟩) s = .next { begun with
        spAck := true, spOut := supplied reply, spReading := if ends then none else some (reply.drop count) }) ∧
    (¬(listens ∧ target = s.spAddress) →
      exec (.spWriteStart target) s = .next { begun with spAck := false, spWrite := .refused } ∧
      exec (.spRead (some target) ⟨count, ends⟩) s = .next { begun with spAck := false, spOut := [] }) ∧
    (∀ left, s.spReading = some left →
      exec (.spRead none ⟨count, ends⟩) s = .next { s with
        spOut := supplied left, spReading := if ends then none else some (left.drop count) }) ∧
    (s.spReading = none → exec (.spRead none ⟨count, ends⟩) s = .next s) ∧
    (s.spWrite = .acknowledged → listens →
      s.receive .servicePort = ({ s with spWrite := .none }, some .servicePort) ∧
      exec .spBadFrame s = .next { s with spWrite := .none, spReply := .ready ⟨.badFrame, []⟩ } ∧
      exec .spWriteAborted s = .next { s with spWrite := .none, spReply := .none }) ∧
    (s.spWrite = .acknowledged → ¬listens →
      s.receive .servicePort = ({ s with spWrite := .none, spReply := .none }, none) ∧
      exec .spBadFrame s = .next { s with spWrite := .none, spReply := .none } ∧
      exec .spWriteAborted s = .next { s with spWrite := .none, spReply := .none }) ∧
    (s.spWrite = .refused →
      s.receive .servicePort = ({ s with spWrite := .none }, none) ∧
      exec .spBadFrame s = .next { s with spWrite := .none } ∧ exec .spWriteAborted s = .next { s with spWrite := .none }) ∧
    (s.spWrite = .none → listens →
      s.receive .servicePort = ({ s with spAck := true, spReply := .preparing, spReading := none }, some .servicePort) ∧
      exec .spBadFrame s = .next { s with spAck := true, spReply := .ready ⟨.badFrame, []⟩, spReading := none } ∧
      exec .spWriteAborted s = .next { s with spAck := true, spReply := .none, spReading := none }) ∧
    (s.spWrite = .none → ¬listens →
      s.receive .servicePort = ({ s with spAck := false, spReading := none }, none) ∧
      exec .spBadFrame s = .next { s with spAck := false, spReading := none } ∧
      exec .spWriteAborted s = .next { s with spAck := false, spReading := none })

/-! ## Play timers -/

/-- At a ramp step's expiry the step moves one place toward the stop step. Short of it, one more step period is loaded; at it,
the play goes to SUSTAIN, to HOLD, or, in a RETIRING slot at SUSTAIN, to its release. A timer that has not run out does not
expire (R36, R58). -/
def Obligations.RampStepExpiryMovesOneStepToTheStopStep : Prop :=
  ∀ (s : State) (id : Nat) (p : Play), s.play id = some p → p.phase = .ramp → s.frozen = false →
    let r := s.recordOf p
    let next := if p.step.toNat < r.stopStep.toNat then p.step + 1
      else if r.stopStep.toNat < p.step.toNat then p.step - 1 else p.step
    (p.timer ≠ 0 → exec (.rampStepExpiry id) s = .next s) ∧
    (p.timer = 0 → ∃ u, exec (.rampStepExpiry id) s = .next u ∧ PlaySide s u ∧ ChannelsFollow s u ∧
      (next ≠ r.stopStep → OtherPlaysStand s u id ∧ SameEvents s u ∧ u.claims = s.claims ∧ u.slots = s.slots ∧
        u.play id = some { p with step := next, timer := r.stepPeriod.toNat }) ∧
      (next = r.stopStep → r.endAction = .sustain → (s.slot p.cue).status ≠ .retiring →
        OtherPlaysStand s u id ∧ SameEvents s u ∧ u.claims = s.claims ∧ u.slots = s.slots ∧
        u.play id = some { p with step := next, phase := .sustain, timer := 0 }) ∧
      (next = r.stopStep → r.endAction = .sustain → (s.slot p.cue).status = .retiring →
        OtherPlaysStand s u id ∧ SameEvents s u ∧ Released s u id { p with step := next }) ∧
      (next = r.stopStep → r.endAction ≠ .sustain → r.hold.count ≠ 0 →
        OtherPlaysStand s u id ∧ SameEvents s u ∧ u.claims = s.claims ∧ u.slots = s.slots ∧
        u.play id = some { p with step := next, phase := .hold, timer := r.hold.count.toNat * unitMs r.hold.unit }))

/-- At the expiry of HOLD, and at the end of RAMP with hold 0, the end action is taken: RELEASE, and an exhausted REPEAT,
release the play; a REPEAT with ramps left goes back to the start step in RAMP with its claims and its pending restart kept;
and in a RETIRING slot every end action releases the play. A timer that has not run out does not expire (R36, R58). -/
def Obligations.EndActionsReleaseOrRepeat : Prop :=
  ∀ (s : State) (id : Nat) (p q : Play) (i : Instr), s.play id = some p → s.frozen = false →
    (i = .holdExpiry id ∧ p.phase = .hold ∧ q = p ∨
      i = .rampStepExpiry id ∧ p.phase = .ramp ∧ (s.recordOf p).hold.count = 0 ∧
        stepToward p.step (s.recordOf p).stopStep = (s.recordOf p).stopStep ∧
        q = { p with step := (s.recordOf p).stopStep }) →
    (∃ n, (s.recordOf p).endAction = .repeating n) ∨ (s.recordOf p).endAction = .release ∨
      (s.slot p.cue).status = .retiring →
    (p.timer ≠ 0 → exec i s = .next s) ∧
    (p.timer = 0 → ∃ u, exec i s = .next u ∧ PlaySide s u ∧ SameEvents s u ∧ ChannelsFollow s u ∧ OtherPlaysStand s u id ∧
      let again (left : Repeats) : Prop := u.claims = s.claims ∧ u.slots = s.slots ∧
        u.play id = some { q with
          phase := .ramp, step := (s.recordOf p).startStep, timer := (s.recordOf p).stepPeriod.toNat, repeats := left }
      if (s.slot p.cue).status = .retiring then Released s u id q
      else
        match (s.recordOf p).endAction, p.repeats with
        | .repeating _, .forever => again .forever
        | .repeating _, .times (n + 1) => again (.times n)
        | _, _ => Released s u id q)

/-- End action CHAIN at the expiry of HOLD, and at the end of RAMP with hold 0, for a play in a HELD slot: a target that is
not HELD ends the play with CHAIN_FAILED; its own cue restarts it with source CHAIN. A target with an ordinary play gets its
policy applied, after which the chaining play has ended. For a target without a play the check leaves the play's own claims
out: where it fails the play ends with CHAIN_FAILED, and where it admits the marked plays are evicted and the target takes
over the record. The fallback play keeps source FALLBACK and priority 16, and supersedes the play of its target, which ends
first. A timer that has not run out does not expire (R36, R58). -/
def Obligations.ChainsFailRestartApplyThePolicyOrHandOver : Prop :=
  ∀ (s : State) (id target : Nat) (p : Play) (i : Instr), s.play id = some p → s.frozen = false →
    (i = .holdExpiry id ∧ p.phase = .hold ∨
      i = .rampStepExpiry id ∧ p.phase = .ramp ∧ (s.recordOf p).hold.count = 0 ∧
        stepToward p.step (s.recordOf p).stopStep = (s.recordOf p).stopStep) →
    (s.slot p.cue).status = .held → (s.recordOf p).endAction = .chain target →
    let r := (s.slot target).record
    let source := if p.source = .fallback then .fallback else .chain
    let priority (own : Nat) := if p.source = .fallback then 16 else own
    (p.timer ≠ 0 → exec i s = .next s) ∧
    (p.timer = 0 → ∃ u, exec i s = .next u ∧ PlaySide s u ∧ ChannelsFollow s u ∧
      ((s.slot target).status ≠ .held → OtherPlaysStand s u id ∧ Ended s u id p ∧ u.flags = s.flags ||| 0x0008 ∧
        u.lastRefusal = s.lastRefusal ∧ u.lastEviction = s.lastEviction) ∧
      ((s.slot target).status = .held → target = p.cue → OtherPlaysStand s u id ∧ SameEvents s u ∧
        Restarted s u id p source (priority (s.recordOf p).priority)) ∧
      (∀ j q, (s.slot target).status = .held → target ≠ p.cue → s.playOf target = some j → s.play j = some q →
        (p.source ≠ .fallback →
          (q.source = .fallback → OtherPlaysStand s u id ∧ Ended s u id p ∧ u.flags = s.flags ||| 0x0002 ∧
            u.lastRefusal = some ⟨target, .chain, .cueProtected, 0⟩ ∧ u.lastEviction = s.lastEviction) ∧
          (q.source ≠ .fallback → SameEvents s u ∧ ∃ m, PlaySide s m ∧ SameEvents s m ∧ OtherPlaysStand s m j ∧
            (r.policy = .restart → Restarted s m j q .chain r.priority) ∧
            (r.policy = .queue → m.play j = some { q with pendingRestart := true } ∧ m.claims = s.claims ∧ m.slots = s.slots) ∧
            (r.policy = .ignore → m = s) ∧
            OtherPlaysStand m u id ∧ Ended m u id p)) ∧
        (p.source = .fallback → FallbackKept s → ClaimsKept s →
          ∃ m marks, PlaySide s m ∧ SameEvents s m ∧ OtherPlaysStand s m j ∧ Ended s m j q ∧
            m.admissionCheck r.channelNumbers 16 (some id) = .admits marks ∧
            PlayMade m u target .fallback 16 marks (id :: marks) id)) ∧
      ((s.slot target).status = .held → target ≠ p.cue → s.playOf target = none →
        (∀ c, s.admissionCheck r.channelNumbers (priority r.priority) (some id) = .fails c →
          OtherPlaysStand s u id ∧ Ended s u id p ∧ u.flags = s.flags ||| 0x0008 ∧ u.lastRefusal = s.lastRefusal ∧
            u.lastEviction = s.lastEviction) ∧
        ∀ marks, s.admissionCheck r.channelNumbers (priority r.priority) (some id) = .admits marks →
          marks = [] ∨ ClaimsKept s → PlayMade s u target source (priority r.priority) marks (id :: marks) id))

/-- At the expiry of its delay a play enters RAMP with its step kept and one step period loaded. At a fade step's expiry k
rises by one: short of the release fade one more step period is loaded; at it the play ends, or takes its pending restart with
its cue's own priority. A frozen play takes no expiry, and a timer that has not run out does not expire: such a command has no
effect (log 1). -/
def Obligations.DelaysAndFadeStepsExpire : Prop :=
  ∀ (s : State) (id : Nat) (p : Play), s.play id = some p →
    let r := s.recordOf p
    (s.frozen = true ∨ p.timer ≠ 0 → exec (.delayExpiry id) s = .next s ∧ exec (.rampStepExpiry id) s = .next s ∧
      exec (.holdExpiry id) s = .next s ∧ exec (.fadeStepExpiry id) s = .next s) ∧
    (s.frozen = false → p.timer = 0 → p.phase = .delay →
      ∃ u, exec (.delayExpiry id) s = .next u ∧ PlaySide s u ∧ SameEvents s u ∧ ChannelsFollow s u ∧
        OtherPlaysStand s u id ∧ u.claims = s.claims ∧ u.slots = s.slots ∧
        u.play id = some { p with phase := .ramp, timer := r.stepPeriod.toNat }) ∧
    ∀ origins k, s.frozen = false → p.timer = 0 → p.phase = .fadeout origins k →
      ∃ u, exec (.fadeStepExpiry id) s = .next u ∧ PlaySide s u ∧ SameEvents s u ∧ ChannelsFollow s u ∧
        OtherPlaysStand s u id ∧
        (k + 1 ≠ r.releaseFade.toNat → u.claims = s.claims ∧ u.slots = s.slots ∧
          u.play id = some { p with phase := .fadeout origins (k + 1), timer := r.stepPeriod.toNat }) ∧
        (k + 1 = r.releaseFade.toNat → p.pendingRestart = true → Restarted s u id p p.source r.priority) ∧
        (k + 1 = r.releaseFade.toNat → p.pendingRestart = false → Ended s u id p)

/-- At the expiry of the watchdog, when its timer is at 0, fallback is entered: the flag goes on, the count rises by one, the
frozen flag clears, FALLBACK_ENTERED is raised and the watchdog stops. With a usable fallback cue record 24 then holds a play
of it, at the start of its profile, with source FALLBACK and priority 16: the play that stood there restarted, or ended and
made anew; the cue's own play moved over, its old id free; or a new play, the marked plays evicted. Every other play stands.
Without a usable cue the plays and claims stand. While the timer has time left, or is stopped, the expiry does not come. -/
def Obligations.WatchdogExpiryEntersFallback : Prop :=
  ∀ s : State,
    (s.watchdog ≠ some 0 → exec .watchdogExpiry s = .next s) ∧
    (s.watchdog = some 0 → FallbackKept s →
      let cue := s.config.fallbackCue
      let entered : State :=
        { s with
          fallbackOn := true, entryCount := s.entryCount + 1, frozen := false, watchdog := none, flags := s.flags ||| 0x0200 }
      ∃ u, exec .watchdogExpiry s = .next u ∧ u.fallbackOn = true ∧ u.entryCount = s.entryCount + 1 ∧ u.frozen = false ∧
        u.flags.getLsbD 9 = true ∧ u.watchdog = none ∧ u.config = s.config ∧ u.store = s.store ∧
        u.lastRefusal = s.lastRefusal ∧ PlaySide entered u ∧ ChannelsFollow s u ∧
        (1 ≤ cue ∧ (s.slot cue).status = .held →
          u.play 24 = some ((s.slot cue).record.begin cue .fallback 16) ∧
          (∀ c ∈ channelIds, c ∈ (s.slot cue).record.channelNumbers → (u.claimList c).head? = some 24) ∧
          (∀ p, s.play 24 = some p → p.cue = cue →
            SameEvents entered u ∧ OtherPlaysStand s u 24 ∧ Restarted s u 24 p .fallback 16) ∧
          (ClaimsKept s →
            (s.play 24 = none → FallbackMade entered u cue) ∧
            ∀ p, s.play 24 = some p → p.cue ≠ cue →
              ∃ m, PlaySide entered m ∧ SameEvents entered m ∧ OtherPlaysStand s m 24 ∧ Ended s m 24 p ∧
                FallbackMade m u cue)) ∧
        (¬(1 ≤ cue ∧ (s.slot cue).status = .held) →
          u.plays = s.plays ∧ u.claims = s.claims ∧ u.slots = s.slots ∧ u.flags = s.flags ||| 0x0200 ∧
            u.lastEviction = s.lastEviction))

/-! ## Channels and temperature -/

/-- A stage's report starts the measurement of a condition from 0 while it is sensed, and its end discards it; nothing but
that condition's record changes on a channel whose record is kept as it should be. -/
def Obligations.ConditionsAreMeasuredWhileTheyAreSensed : Prop :=
  ∀ (s : State) (c : Nat) (cond : FaultCondition) (present : Bool) (x : Channel), ChannelsKept s → s.channel c = some x →
    let low := if cond = .openLoad then 64 else 1
    ∃ u y, exec (.faultConditionChange c cond present) s = .next u ∧ u = { s with channels := u.channels } ∧
      (∀ d, d ≠ c → u.channel d = s.channel d) ∧ u.channel c = some y ∧
      y = x.setSense cond (y.sense cond) ∧ (y.sense cond).reported = present ∧
      (present = false → (y.sense cond).persistence = none) ∧
      (present = true → x.level < low → (y.sense cond).persistence = none) ∧
      (present = true → low ≤ x.level → (cond = .openLoad → x.openLoadFlag = false) →
        (y.sense cond).persistence = if (x.sense cond).reported then (x.sense cond).persistence else some 0)

/-- A condition is detected when its persistence has reached the fault deglitch time in force, and not before. A detection of
SHORT or OVERCURRENT trips a NORMAL channel: output 0, count one higher, LOCKED with CHANNEL_LOCKED above max retries, else
TRIPPED with the retry delay loaded and CHANNEL_TRIP. A detection of OPEN_LOAD sets the channel's flag, raises OPEN_LOAD and
leaves the rest, and is not sensed any more. -/
def Obligations.DetectionsTripTheChannelOrSetItsFlag : Prop :=
  ∀ (s : State) (c : Nat) (cond : FaultCondition) (x : Channel), ChannelsKept s → s.channel c = some x →
    let time := match s.config.deglitch with | .us50 => 50 | .us100 => 100 | .us200 => 200 | .us400 => 400
    (∀ short, (x.sense cond).persistence = some short → short < time →
      (cond ≠ .openLoad → exec (.trip c cond) s = .next s) ∧ (cond = .openLoad → exec (.openLoadDetection c) s = .next s)) ∧
    ∀ long, (x.sense cond).persistence = some long → time ≤ long → x.state = .normal →
    (cond ≠ .openLoad → ∃ u, exec (.trip c cond) s = .next u ∧
      u = { s with channels := u.channels, flags := u.flags } ∧ (∀ d, d ≠ c → u.channel d = s.channel d) ∧
      u.channel c = some
        { x with
          state := if s.config.maxRetries < x.retryCount + 1 then .locked else .tripped
          retryCount := x.retryCount + 1
          retryTimer := if s.config.maxRetries < x.retryCount + 1 then none else some (s.config.retryDelay.toNat * 10000)
          goodRun := none
          level := 0
          overcurrent := { x.overcurrent with persistence := none }
          short := { x.short with persistence := none }
          openLoad := { x.openLoad with persistence := none } } ∧
      u.flags = s.flags ||| (if s.config.maxRetries < x.retryCount + 1 then 0x0020 else 0x0010)) ∧
    (cond = .openLoad → ∃ u, exec (.openLoadDetection c) s = .next u ∧
      u = { s with channels := u.channels, flags := u.flags } ∧ (∀ d, d ≠ c → u.channel d = s.channel d) ∧
      u.channel c = some { x with openLoadFlag := true, openLoad := { x.openLoad with persistence := none } } ∧
      u.flags = s.flags ||| 0x0040)

/-- At its retry expiry, when the timer has run out, a TRIPPED channel becomes NORMAL with its count kept and takes its
owner's present level, every condition sensed from zero and the good-run timer from 0; at its good-run expiry, when the timer
has reached the good-run time, its count becomes 0 and the timer stops. Neither raises an event. A timer that is stopped, or
was started afresh, does not expire (R118). -/
def Obligations.RetryAndGoodRunExpire : Prop :=
  ∀ (s : State) (c : Nat) (x : Channel), ChannelsKept s → s.channel c = some x →
    (x.retryTimer ≠ some 0 → exec (.retryExpiry c) s = .next s) ∧
    ((∀ run, x.goodRun = some run → run < s.config.goodRunTime.toNat * 1000000) → exec (.goodRunExpiry c) s = .next s) ∧
    (x.state = .tripped → x.retryTimer = some 0 → ∃ u y, exec (.retryExpiry c) s = .next u ∧ u = { s with channels := u.channels } ∧
      (∀ d, d ≠ c → u.channel d = s.channel d) ∧ u.channel c = some y ∧ y.state = .normal ∧
      y.retryCount = x.retryCount ∧ y.retryTimer = none ∧ y.openLoadFlag = x.openLoadFlag ∧
      y.level = s.outputLevel c .normal ∧
      y.goodRun = (if y.level = 0 ∨ s.config.goodRunTime = 0 then none else some 0) ∧
      y.overcurrent = { x.overcurrent with persistence := if x.overcurrent.reported ∧ 1 ≤ y.level then some 0 else none } ∧
      y.short = { x.short with persistence := if x.short.reported ∧ 1 ≤ y.level then some 0 else none } ∧
      y.openLoad = { x.openLoad with
        persistence := if x.openLoad.reported ∧ 64 ≤ y.level ∧ x.openLoadFlag = false then some 0 else none }) ∧
    ∀ run, x.goodRun = some run → s.config.goodRunTime.toNat * 1000000 ≤ run →
      ∃ u, exec (.goodRunExpiry c) s = .next u ∧ u = { s with channels := u.channels } ∧
      (∀ d, d ≠ c → u.channel d = s.channel d) ∧ u.channel c = some { x with retryCount := 0, goodRun := none }

/-- A sample goes into the accumulator; the N-th makes a reading, the sum divided by N and rounded down, which empties the
accumulator and moves the thermal state by the table of R121, with its event, and the output levels follow in the same
action. -/
def Obligations.SamplesMakeReadingsAndReadingsMoveTheState : Prop :=
  ∀ (s : State) (t : Int), s.stage ≠ .held → -40 ≤ t → t ≤ 200 → ThermalKept s →
    let n := s.config.averaging.samples
    let reading := (s.thermal.sum + t) / n
    ∃ u, exec (.temperatureSample t) s = .next u ∧
      u = { s with thermal := u.thermal, flags := u.flags, channels := u.channels } ∧ ChannelsFollow s u ∧
      (s.thermal.count + 1 < n → u.flags = s.flags ∧
        u.thermal = { s.thermal with sum := s.thermal.sum + t, count := s.thermal.count + 1 }) ∧
      (s.thermal.count + 1 = n → u.thermal.sum = 0 ∧ u.thermal.count = 0 ∧ u.thermal.lastReading = some reading ∧
        (u.thermal.state, u.flags) =
          match s.thermal.state with
          | .normal =>
            if (s.config.shutdown : Int) ≤ reading then (.shutdown, s.flags ||| 0x0100)
            else if (s.config.warn : Int) ≤ reading then (.warn, s.flags ||| 0x0080) else (.normal, s.flags)
          | .warn =>
            if (s.config.shutdown : Int) ≤ reading then (.shutdown, s.flags ||| 0x0100)
            else if reading ≤ (s.config.warn : Int) - s.config.hysteresis then (.normal, s.flags) else (.warn, s.flags)
          | .shutdown =>
            if reading ≤ (s.config.shutdown : Int) - s.config.hysteresis then (.warn, s.flags) else (.shutdown, s.flags))

/-! ## Input lines and patterns -/

/-- A watched line's raw level that comes to differ from the accepted one starts the debounce timer afresh, or with debounce 0
is accepted at once; one that returns stops it. A line that is not watched follows its raw level and nothing else. At the
expiry of its timer a watched line accepts its raw level. Every acceptance offers PRESS or RELEASE to the patterns. A timer
that is stopped, or has time left, does not expire. -/
def Obligations.RawLevelsAreDebouncedAndAccepted : Prop :=
  ∀ (s : State) (l : Nat) (level : LineLevel) (x : Line), s.line l = some x →
    (x.raw = level → exec (.rawLevelChange l level) s = .next s) ∧
    (x.raw ≠ level →
      (s.watches l = false → exec (.rawLevelChange l level) s = .next (s.setLine l { x with raw := level })) ∧
      (s.watches l = true → x.accepted = some level →
        exec (.rawLevelChange l level) s = .next (s.setLine l { x with raw := level, timer := none })) ∧
      (s.watches l = true → x.accepted ≠ some level → (s.lineItems l).debounce ≠ .ms0 →
        exec (.rawLevelChange l level) s =
          .next (s.setLine l { x with raw := level, timer := some ((s.lineItems l).debounce.ms * 1000) })) ∧
      (s.watches l = true → x.accepted ≠ some level → (s.lineItems l).debounce = .ms0 →
        exec (.rawLevelChange l level) s =
          .next (State.inputEvent (s.setLine l ⟨level, some level, none⟩)
            ⟨l, if level = (s.lineItems l).activeLevel then .press else .release⟩))) ∧
    (x.timer ≠ some 0 → exec (.debounceExpiry l) s = .next s) ∧
    (s.watches l = true → x.timer = some 0 →
      exec (.debounceExpiry l) s =
        .next (State.inputEvent (s.setLine l ⟨x.raw, some x.raw, none⟩)
          ⟨l, if x.raw = (s.lineItems l).activeLevel then .press else .release⟩))

/-- An input event advances, restarts or resets every enabled pattern, passes over the disabled ones, and completes those
whose last element it equals, which raises PATTERN_MATCH. Then the actions of the completed patterns are taken, in ascending
order of pattern, each whole before the next: TRIGGER triggers the cue with source INPUT and the pattern's index, RELEASE
releases its play, and TOGGLE releases a play that stands before FADEOUT and triggers the cue otherwise. No action changes a
match state or a line. A window's expiry sets the progress to 0 and stops the timer, and changes nothing else. A window that
is stopped, or has time left, does not expire. -/
def Obligations.InputEventsAdvanceTheEnabledPatterns : Prop :=
  ∀ (s : State) (e : InputEvent),
    let completes (x : Pattern) : Prop :=
      x.record.enabled = true ∧ x.record.elements[x.progress]? = some e ∧ x.progress + 1 = x.record.elements.length
    (State.inputEvent s e).lines = s.lines ∧
    (∃ t, t = { s with patterns := (State.inputEvent s e).patterns, flags := t.flags } ∧
      ((∃ k x, s.pattern k = some x ∧ completes x) → t.flags = s.flags ||| 0x0001) ∧
      ((¬∃ k x, s.pattern k = some x ∧ completes x) → t.flags = s.flags) ∧
      InOrder ActedOn
        ((List.range' 1 16).filter fun k => (s.pattern k).any fun x =>
          x.record.enabled && x.record.elements[x.progress]? == some e && x.progress + 1 == x.record.elements.length)
        t (State.inputEvent s e)) ∧
    ((∃ k x, s.pattern k = some x ∧ completes x) → (State.inputEvent s e).flags.getLsbD 0 = true) ∧
    ((¬∃ k x, s.pattern k = some x ∧ completes x) → (State.inputEvent s e) = { s with patterns := (State.inputEvent s e).patterns }) ∧
    ∀ k x, s.pattern k = some x →
      (x.window ≠ some 0 → exec (.windowExpiry k) s = .next s) ∧
      (x.window = some 0 →
        exec (.windowExpiry k) s = .next (s.setPattern k { x with progress := 0, window := none })) ∧
      ∃ y, (State.inputEvent s e).pattern k = some y ∧ y.record = x.record ∧
      (x.record.enabled = false → y = x) ∧
      (completes x → y.progress = 0 ∧ y.window = none) ∧
      (x.record.enabled = true → ¬completes x → x.record.elements[x.progress]? = some e →
        y.progress = x.progress + 1 ∧
          y.window = if x.progress = 0 then some (x.record.window * 50000) else x.window) ∧
      (x.record.enabled = true → x.record.elements[x.progress]? ≠ some e → x.record.elements.head? = some e →
        y.progress = 1 ∧ y.window = some (x.record.window * 50000)) ∧
      (x.record.enabled = true → x.record.elements[x.progress]? ≠ some e → x.record.elements.head? ≠ some e →
        y.progress = 0 ∧ y.window = none)

/-! ## Resets and start-up -/

/-- The supply's rise, its loss, and RSTN driven low on a supplied part each lead to the reset values, with the cause POWER,
the cause as it stood, and PIN; RSTN held low, or no supply, holds the part in reset. The image, its check word, the resume
set and the raw levels of the lines stand. That the resume set stands is log 12. What a part without supply holds, and the
cause it keeps, are the model's choice (log 14); a supply that rises with RSTN low is log 25. -/
def Obligations.PowerAndPinResetThePart : Prop :=
  ∀ s : State,
    (∃ u, exec .powerReset s = .next u ∧ AfterReset u .power ∧
      u.stage = (if s.rstnLow then .held else .loading) ∧ u.image = s.image ∧ u.checkGood = s.checkGood ∧
      u.resumeSet = s.resumeSet ∧ ∀ l, (u.line l).map (·.raw) = (s.line l).map (·.raw)) ∧
    (∃ u, exec .powerLoss s = .next u ∧ AfterReset u s.resetCause ∧ u.stage = .held ∧ u.powered = false ∧
      u.image = s.image ∧ u.checkGood = s.checkGood ∧ u.resumeSet = s.resumeSet ∧
      ∀ l, (u.line l).map (·.raw) = (s.line l).map (·.raw)) ∧
    (s.rstnLow = false → s.powered = true → ∃ u, exec .rstnLow s = .next u ∧ AfterReset u .pin ∧ u.stage = .held ∧
      u.rstnLow = true ∧ u.image = s.image ∧ u.checkGood = s.checkGood ∧ u.resumeSet = s.resumeSet ∧
      ∀ l, (u.line l).map (·.raw) = (s.line l).map (·.raw)) ∧
    (s.rstnLow = true → exec .rstnHigh s = .next { s with
      rstnLow := false, stage := if s.powered then .loading else .held })

/-- At the end of the load the working tables, the configuration, the resume set, the link's address and rate, and the live
service mode take the contents of the stored image under a good check word, or else those of the factory image, with the
image-valid flag no and STORE_INVALID raised; the settle delay begins, and the store itself stands. That a frame in progress
ends without LINK_ERROR is log 20. -/
def Obligations.TheLoadTakesTheImageOrTheFactoryImage : Prop :=
  ∀ s : State, s.stage = .loading →
    let m := if s.checkGood then s.image else Image.factory
    ∃ u, exec .imageLoadEnd s = .next u ∧ u.slots = m.slots ∧ u.config = m.config ∧ u.resumeSet = m.resume ∧
      (∀ k r, at1 m.patterns k = some r → u.pattern k = some { record := r, progress := 0, window := none }) ∧
      u.linkAddress = m.config.unitAddress ∧ u.linkBaud = m.config.baud ∧ u.serviceMode = .plain m.config.serviceMode ∧
      u.stage = .settling (m.config.settleDelay * 100000) ∧ u.receiver = .hunting ∧ u.imageValid = s.checkGood ∧
      u.flags = (if s.checkGood then s.flags else s.flags ||| 0x1000) ∧ u.image = s.image ∧ u.checkGood = s.checkGood ∧
      u.plays = s.plays ∧ u.claims = s.claims ∧ u.channels = s.channels ∧ u.lines = s.lines ∧
      u.thermal = (if m.config.averaging = s.config.averaging then s.thermal else { s.thermal with sum := 0, count := 0 })

/-- At the end of the settle delay the part is RUNNING: every enabled line takes its raw level without an event, the watchdog
starts when its period is not 0, every channel follows its owner, and RESTARTED is raised. With start policy DARK, or
START_CUE and start cue 0, no play is made; with a start cue that is HELD its play begins in record 1 with source START; and
in every case the cues that the policy names are triggered with source START, in their order, each trigger whole before the
next, with its admission and evictions or its refusal. That the settle delay may end whatever time is left is log 4. -/
def Obligations.EntryToRunningAppliesTheStartPolicy : Prop :=
  ∀ (s : State) (left : Nat), s.stage = .settling left → (∀ id, s.play id = none) → (∀ c, s.claimList c = []) →
    s.fallbackOn = false → s.watchdog = none →
    ∃ u, exec .entryToRunning s = .next u ∧ u.stage = .running ∧ u.flags.getLsbD 14 = true ∧ u.config = s.config ∧
      u.thermal = s.thermal ∧ u.patterns = s.patterns ∧ u.store = s.store ∧
      u.watchdog = (if s.config.watchdogPeriod ≠ 0 then some s.config.watchdogMicros else none) ∧
      LevelsFollowTheOwners u ∧
      (∀ l x, s.line l = some x → u.line l = some
        { x with accepted := if (s.lineItems l).enabled then some x.raw else none, timer := none }) ∧
      (s.config.startPolicy = .dark ∨ (s.config.startPolicy = .startCue ∧ s.config.startCue = 0) →
        u.plays = s.plays ∧ u.slots = s.slots ∧ u.flags = s.flags ||| 0x4000) ∧
      (∃ m, u = { m with channels := u.channels, flags := m.flags ||| 0x4000 } ∧
        InOrder (fun v w n => TriggeredBy v w n .start)
          (match s.config.startPolicy with
            | .dark => []
            | .startCue => if s.config.startCue = 0 then [] else [s.config.startCue]
            | .resumeSet => s.resumeSet)
          { s with stage := .running, lines := u.lines, watchdog := u.watchdog } m) ∧
      (∀ n, s.config.startPolicy = .startCue → n = s.config.startCue → n ≠ 0 → (s.slot n).status = .held →
        u.play 1 = some ((s.slot n).record.begin n .start (s.slot n).record.priority) ∧
        (∀ id, id ≠ 1 → u.play id = none) ∧ u.slots = s.slots ∧ u.flags = s.flags ||| 0x4000) ∧
      (∀ n, s.config.startPolicy = .startCue → n = s.config.startCue → n ≠ 0 → (s.slot n).status = .free →
        u.plays = s.plays ∧ u.slots = s.slots ∧ u.flags = s.flags ||| 0x4002 ∧ u.lastRefusal = some ⟨n, .start, .noCue, 0⟩)

/-! ## Levels and checks -/

/-- The curve values are whole parts of the quotients that R65 gives, equal to its forms in lowest terms; every curve gives 0
at step 0 and 4095 at step 255, and rises or stays the same as the step rises; CUBE gives 0 up to step 15; and two steps with
the same curve value give the same level on every channel. -/
def Obligations.CurveValuesFollowTheirFormulas : Prop :=
  (∀ s, s ≤ 255 → curveValue .linear s = 4095 * s / 255 ∧ curveValue .linear s = 16 * s + s / 17 ∧
    curveValue .square s = 4095 * s ^ 2 / 65025 ∧ curveValue .square s = 91 * s ^ 2 / 1445 ∧
    curveValue .cube s = 4095 * s ^ 3 / 16581375 ∧ curveValue .cube s = 91 * s ^ 3 / 368475 ∧
    curveValue .switch s = if s ≤ 127 then 0 else 4095) ∧
  (∀ c : Curve, curveValue c 0 = 0 ∧ curveValue c 255 = 4095 ∧
    ∀ a b, a ≤ b → b ≤ 255 → curveValue c a ≤ curveValue c b ∧ curveValue c b ≤ 4095) ∧
  (∀ s, s ≤ 15 → curveValue .cube s = 0) ∧
  ∀ (r : CueRecord) (a b : Byte) (c : Nat),
    curveValue r.curve a.toNat = curveValue r.curve b.toNat → r.levelAt a c = r.levelAt b c

/-- A play level is floor(C × scale × trim / 65025), never above the curve value; a fade level is floor(L0 × (R − k) / R), L0
at k = 0, never above it and never rising; and the output level is floor(P × d / 256) of the owner's level P, with d = 256, or
the derate factor in WARN, and 0 outside RUNNING, in TRIPPED, LOCKED and SHUTDOWN and without an owner. When the outputs are
computed again, the good-run timer of a channel stops at level 0, starts from 0 when its level rises from 0, and runs on
otherwise; and the persistence of a reported condition runs on while the level stays in the condition's range, starts from 0
when the level comes into it, and is discarded when the level leaves it. -/
def Obligations.PlayFadeAndOutputLevelsRoundDownOnce : Prop :=
  (∀ (r : CueRecord) (p : Play) (c : Nat) (scale : Byte), p.phase.beforeFade = true → r.scaleOf c = some scale →
    playLevel r p c = curveValue r.curve p.step.toNat * scale.toNat * r.trim.toNat / 65025 ∧
      playLevel r p c ≤ curveValue r.curve p.step.toNat) ∧
  (∀ (r : CueRecord) (p : Play) (c k : Nat) (origins : List OriginLevel), p.phase = .fadeout origins k →
    playLevel r p c = originLevel origins c * (r.releaseFade.toNat - k) / r.releaseFade.toNat ∧
      playLevel r p c ≤ originLevel origins c ∧
      (k = 0 → r.releaseFade ≠ 0 → playLevel r p c = originLevel origins c) ∧
      ∀ j, k ≤ j → playLevel r { p with phase := .fadeout origins j } c ≤ playLevel r p c) ∧
  (∀ s : State, State.drive s = { s with channels := (State.drive s).channels } ∧
    ∀ c x, s.channel c = some x → ∃ y, (State.drive s).channel c = some y ∧ y.level = s.outputLevel c x.state ∧
      y.state = x.state ∧ y.retryCount = x.retryCount ∧ y.retryTimer = x.retryTimer ∧ y.openLoadFlag = x.openLoadFlag ∧
      (y.level = 0 → y.goodRun = none) ∧
      (y.level ≠ 0 → x.level = 0 → y.goodRun = if s.config.goodRunTime = 0 then none else some 0) ∧
      (y.level ≠ 0 → x.level ≠ 0 → y.goodRun = x.goodRun) ∧
      ∀ cond, (y.sense cond).reported = (x.sense cond).reported ∧
        let sensed := (x.sense cond).reported = true ∧ (if cond = .openLoad then 64 else 1) ≤ y.level ∧
          (cond = .openLoad → x.openLoadFlag = false)
        (¬sensed → (y.sense cond).persistence = none) ∧
        (sensed → (x.sense cond).persistence = none → (y.sense cond).persistence = some 0) ∧
        (sensed → ∀ long, (x.sense cond).persistence = some long → (y.sense cond).persistence = some long)) ∧
  ∀ (s : State) (c : Nat) (state : SupervisorState),
    (s.stage ≠ .running ∨ state = .tripped ∨ state = .locked ∨ s.thermal.state = .shutdown ∨ s.owner c = none →
      s.outputLevel c state = 0) ∧
    ∀ id, s.owner c = some id →
      (s.stage = .running → state = .normal → s.thermal.state ≠ .shutdown →
        s.outputLevel c state =
          s.levelOf id c * (if s.thermal.state = .warn then s.config.derate else 256) / 256) ∧
      (∀ p, s.play id = some p → s.levelOf id c = playLevel (s.recordOf p) p c) ∧
      (s.config.derate ≤ 256 → s.outputLevel c state ≤ s.levelOf id c)

/-! ## What every step keeps -/

/-- Every property of Safety.lean that steps keep holds right after reset. The values of State.reset that no rule gives are
logs 12 and 15. -/
def Obligations.TheKeptPropertiesHoldAtReset : Prop :=
  AfterReset State.reset .power ∧ ChannelsKept State.reset ∧ PatternsKept State.reset ∧ WindowsKept State.reset ∧
    LinesKept State.reset ∧ WatchdogKept State.reset ∧ RetiringKept State.reset ∧ FallbackKept State.reset ∧
    ClaimsKept State.reset ∧ ThermalKept State.reset ∧ EventSetsKept State.reset ∧ ResumeKept State.reset ∧ HeldKept State.reset

/-- Every step keeps a part without supply, or with RSTN low, in reset. And, where that holds, after every step every channel
drives the level that its owner, the derate and the gating give it. A step of an empty queue is the model's (log 2). -/
def Obligations.EveryStepKeepsTheLevelsAtTheirOwners : Prop :=
  (∀ s t : State, HeldKept s → step s = .next t → HeldKept t) ∧
  ∀ s t : State, HeldKept s → LevelsFollowTheOwners s → step s = .next t → LevelsFollowTheOwners t

/-- Every step keeps every channel record as its supervisor state says, and the retry count at 8 or below. -/
def Obligations.EveryStepKeepsTheChannelRecords : Prop :=
  ∀ s t : State, HeldKept s → ChannelsKept s → step s = .next t → ChannelsKept t

/-- Every step keeps the claim lists in order, at most 6 long, and in agreement with the plays. -/
def Obligations.EveryStepKeepsTheClaimLists : Prop :=
  ∀ s t : State, HeldKept s → WatchdogKept s → ClaimsKept s → step s = .next t → ClaimsKept t

/-- Every step keeps the fallback play in record 24 at priority 16, alone, and in FADEOUT while fallback is off. -/
def Obligations.EveryStepKeepsTheFallbackPlay : Prop :=
  ∀ s t : State, FallbackKept s → step s = .next t → FallbackKept t

/-- Every step keeps a play for every RETIRING slot, and no image with a RETIRING slot. -/
def Obligations.EveryStepKeepsAPlayForEveryRetiringSlot : Prop :=
  ∀ s t : State, RetiringKept s → step s = .next t → RetiringKept t

/-- Every step keeps every pattern's progress below its element count, 0 when disabled, with its window running exactly from 1
on. -/
def Obligations.EveryStepKeepsThePatternMatches : Prop :=
  ∀ s t : State, PatternsKept s → WindowsKept s → step s = .next t → PatternsKept t ∧ WindowsKept t

/-- Every step keeps the input lines, accepted and debouncing exactly as the watched ones should be, and the watchdog running
exactly while the part is RUNNING, fallback is off and the period is not 0. -/
def Obligations.EveryStepKeepsTheInputLinesAndTheWatchdog : Prop :=
  ∀ s t : State, HeldKept s → LinesKept s → WatchdogKept s → step s = .next t → LinesKept t ∧ WatchdogKept t

/-- Every step keeps the accumulator short of a reading, bit 15 of every event set clear, and every resume set in its
bounds. -/
def Obligations.EveryStepKeepsTheSmallTables : Prop :=
  ∀ s t : State, ThermalKept s → EventSetsKept s → ResumeKept s → step s = .next t →
    ThermalKept t ∧ EventSetsKept t ∧ ResumeKept t
end

