-- ==== Sys2Proof/Laws/Banks.lean ====
section
/-! SUPPORT. What a bank holds after each way of changing it. -/

namespace Sys2Proof.Machine

variable {α β : Type} {k : Nat}

@[simp] theorem at1_zero (v : Vector α k) : at1 v 0 = none := rfl

theorem at1_succ (v : Vector α k) (i : Nat) : at1 v (i + 1) = v[i]? := rfl

theorem at1_isSome_iff (v : Vector α k) (n : Nat) : (at1 v n).isSome = true ↔ 1 ≤ n ∧ n ≤ k := by
  cases n with
  | zero => simp
  | succ i =>
    rw [at1_succ]
    by_cases h : i < k
    · simp only [Vector.getElem?_eq_getElem h, Option.isSome_some, true_iff]
      omega
    · simp only [Vector.getElem?_eq_none (Nat.le_of_not_lt h), Option.isSome_none, Bool.false_eq_true, false_iff]
      omega

theorem at1_put1_same (v : Vector α k) (n : Nat) (x : α) (h : 1 ≤ n ∧ n ≤ k) : at1 (put1 v n x) n = some x := by
  cases n with
  | zero => omega
  | succ i =>
    have hi : i < k := by omega
    simp [put1, at1_succ, Vector.getElem?_eq_getElem hi]

theorem at1_put1_other (v : Vector α k) (n m : Nat) (x : α) (h : m ≠ n) : at1 (put1 v n x) m = at1 v m := by
  cases n with
  | zero => rfl
  | succ i =>
    cases m with
    | zero => rfl
    | succ j =>
      have hij : i ≠ j := by omega
      simp [put1, at1_succ, Vector.getElem?_setIfInBounds_ne hij]

@[simp] theorem toList_mapBank (f : α → β) (v : Vector α k) : (mapBank f v).toList = v.toList.map f := rfl

@[simp] theorem toList_mapBank1 (f : Nat → α → β) (v : Vector α k) :
    (mapBank1 f v).toList = v.toList.mapIdx fun i x => f (i + 1) x := rfl

theorem at1_eq_toList (v : Vector α k) (i : Nat) : at1 v (i + 1) = v.toList[i]? := by
  simp [at1_succ]

@[simp] theorem at1_mapBank (f : α → β) (v : Vector α k) (n : Nat) : at1 (mapBank f v) n = (at1 v n).map f := by
  cases n with
  | zero => rfl
  | succ i => rw [at1_eq_toList, at1_eq_toList, toList_mapBank, List.getElem?_map]

@[simp] theorem at1_mapBank1 (f : Nat → α → β) (v : Vector α k) (n : Nat) :
    at1 (mapBank1 f v) n = (at1 v n).map (f n) := by
  cases n with
  | zero => rfl
  | succ i => rw [at1_eq_toList, at1_eq_toList, toList_mapBank1, List.getElem?_mapIdx]

theorem at1_replicate (n : Nat) (x : α) (h : 1 ≤ n ∧ n ≤ k) : at1 (Vector.replicate k x) n = some x := by
  cases n with
  | zero => omega
  | succ i =>
    have hi : i < k := by omega
    simp [at1_succ, hi]

/-- A thing stands in the bank's list exactly when some number names it. -/
theorem mem_toList_iff_at1 (v : Vector α k) (x : α) : x ∈ v.toList ↔ ∃ n, at1 v n = some x := by
  rw [List.mem_iff_getElem?]
  constructor
  · rintro ⟨i, h⟩
    exact ⟨i + 1, by rw [at1_eq_toList]; exact h⟩
  · rintro ⟨n, h⟩
    cases n with
    | zero => simp at h
    | succ i => exact ⟨i, by rw [at1_eq_toList] at h; exact h⟩

end Sys2Proof.Machine
end

