-- ==== Sys2Proof/Laws/State.lean ====
section
/-! SUPPORT. One lemma for each field of the state after each named update: the new value where the update writes the field,
the old one everywhere else. -/

namespace Sys2Proof.Machine

/-! ## `State.setSlot` -/

@[simp] theorem setSlot_pending (s : State) (n : Nat) (x : Slot) : (s.setSlot n x).pending = s.pending := rfl
@[simp] theorem setSlot_ties (s : State) (n : Nat) (x : Slot) : (s.setSlot n x).ties = s.ties := rfl
@[simp] theorem setSlot_micros (s : State) (n : Nat) (x : Slot) : (s.setSlot n x).micros = s.micros := rfl
@[simp] theorem setSlot_powered (s : State) (n : Nat) (x : Slot) : (s.setSlot n x).powered = s.powered := rfl
@[simp] theorem setSlot_rstnLow (s : State) (n : Nat) (x : Slot) : (s.setSlot n x).rstnLow = s.rstnLow := rfl
@[simp] theorem setSlot_sa1 (s : State) (n : Nat) (x : Slot) : (s.setSlot n x).sa1 = s.sa1 := rfl
@[simp] theorem setSlot_sa0 (s : State) (n : Nat) (x : Slot) : (s.setSlot n x).sa0 = s.sa0 := rfl
@[simp] theorem setSlot_stage (s : State) (n : Nat) (x : Slot) : (s.setSlot n x).stage = s.stage := rfl
@[simp] theorem setSlot_resetCause (s : State) (n : Nat) (x : Slot) : (s.setSlot n x).resetCause = s.resetCause := rfl
@[simp] theorem setSlot_slots (s : State) (n : Nat) (x : Slot) : (s.setSlot n x).slots = put1 s.slots n x := rfl
@[simp] theorem setSlot_plays (s : State) (n : Nat) (x : Slot) : (s.setSlot n x).plays = s.plays := rfl
@[simp] theorem setSlot_frozen (s : State) (n : Nat) (x : Slot) : (s.setSlot n x).frozen = s.frozen := rfl
@[simp] theorem setSlot_claims (s : State) (n : Nat) (x : Slot) : (s.setSlot n x).claims = s.claims := rfl
@[simp] theorem setSlot_channels (s : State) (n : Nat) (x : Slot) : (s.setSlot n x).channels = s.channels := rfl
@[simp] theorem setSlot_thermal (s : State) (n : Nat) (x : Slot) : (s.setSlot n x).thermal = s.thermal := rfl
@[simp] theorem setSlot_lines (s : State) (n : Nat) (x : Slot) : (s.setSlot n x).lines = s.lines := rfl
@[simp] theorem setSlot_patterns (s : State) (n : Nat) (x : Slot) : (s.setSlot n x).patterns = s.patterns := rfl
@[simp] theorem setSlot_watchdog (s : State) (n : Nat) (x : Slot) : (s.setSlot n x).watchdog = s.watchdog := rfl
@[simp] theorem setSlot_fallbackOn (s : State) (n : Nat) (x : Slot) : (s.setSlot n x).fallbackOn = s.fallbackOn := rfl
@[simp] theorem setSlot_entryCount (s : State) (n : Nat) (x : Slot) : (s.setSlot n x).entryCount = s.entryCount := rfl
@[simp] theorem setSlot_receiver (s : State) (n : Nat) (x : Slot) : (s.setSlot n x).receiver = s.receiver := rfl
@[simp] theorem setSlot_linkReply (s : State) (n : Nat) (x : Slot) : (s.setSlot n x).linkReply = s.linkReply := rfl
@[simp] theorem setSlot_linkAddress (s : State) (n : Nat) (x : Slot) : (s.setSlot n x).linkAddress = s.linkAddress := rfl
@[simp] theorem setSlot_linkBaud (s : State) (n : Nat) (x : Slot) : (s.setSlot n x).linkBaud = s.linkBaud := rfl
@[simp] theorem setSlot_spAddress (s : State) (n : Nat) (x : Slot) : (s.setSlot n x).spAddress = s.spAddress := rfl
@[simp] theorem setSlot_spReply (s : State) (n : Nat) (x : Slot) : (s.setSlot n x).spReply = s.spReply := rfl
@[simp] theorem setSlot_spWrite (s : State) (n : Nat) (x : Slot) : (s.setSlot n x).spWrite = s.spWrite := rfl
@[simp] theorem setSlot_spReading (s : State) (n : Nat) (x : Slot) : (s.setSlot n x).spReading = s.spReading := rfl
@[simp] theorem setSlot_serviceMode (s : State) (n : Nat) (x : Slot) : (s.setSlot n x).serviceMode = s.serviceMode := rfl
@[simp] theorem setSlot_spAck (s : State) (n : Nat) (x : Slot) : (s.setSlot n x).spAck = s.spAck := rfl
@[simp] theorem setSlot_spOut (s : State) (n : Nat) (x : Slot) : (s.setSlot n x).spOut = s.spOut := rfl
@[simp] theorem setSlot_config (s : State) (n : Nat) (x : Slot) : (s.setSlot n x).config = s.config := rfl
@[simp] theorem setSlot_store (s : State) (n : Nat) (x : Slot) : (s.setSlot n x).store = s.store := rfl
@[simp] theorem setSlot_imageValid (s : State) (n : Nat) (x : Slot) : (s.setSlot n x).imageValid = s.imageValid := rfl
@[simp] theorem setSlot_resumeSet (s : State) (n : Nat) (x : Slot) : (s.setSlot n x).resumeSet = s.resumeSet := rfl
@[simp] theorem setSlot_image (s : State) (n : Nat) (x : Slot) : (s.setSlot n x).image = s.image := rfl
@[simp] theorem setSlot_checkGood (s : State) (n : Nat) (x : Slot) : (s.setSlot n x).checkGood = s.checkGood := rfl
@[simp] theorem setSlot_flags (s : State) (n : Nat) (x : Slot) : (s.setSlot n x).flags = s.flags := rfl
@[simp] theorem setSlot_lastRefusal (s : State) (n : Nat) (x : Slot) : (s.setSlot n x).lastRefusal = s.lastRefusal := rfl
@[simp] theorem setSlot_lastEviction (s : State) (n : Nat) (x : Slot) : (s.setSlot n x).lastEviction = s.lastEviction := rfl

/-! ## `State.setPlay` -/

@[simp] theorem setPlay_pending (s : State) (id : Nat) (x : Option Play) : (s.setPlay id x).pending = s.pending := rfl
@[simp] theorem setPlay_ties (s : State) (id : Nat) (x : Option Play) : (s.setPlay id x).ties = s.ties := rfl
@[simp] theorem setPlay_micros (s : State) (id : Nat) (x : Option Play) : (s.setPlay id x).micros = s.micros := rfl
@[simp] theorem setPlay_powered (s : State) (id : Nat) (x : Option Play) : (s.setPlay id x).powered = s.powered := rfl
@[simp] theorem setPlay_rstnLow (s : State) (id : Nat) (x : Option Play) : (s.setPlay id x).rstnLow = s.rstnLow := rfl
@[simp] theorem setPlay_sa1 (s : State) (id : Nat) (x : Option Play) : (s.setPlay id x).sa1 = s.sa1 := rfl
@[simp] theorem setPlay_sa0 (s : State) (id : Nat) (x : Option Play) : (s.setPlay id x).sa0 = s.sa0 := rfl
@[simp] theorem setPlay_stage (s : State) (id : Nat) (x : Option Play) : (s.setPlay id x).stage = s.stage := rfl
@[simp] theorem setPlay_resetCause (s : State) (id : Nat) (x : Option Play) : (s.setPlay id x).resetCause = s.resetCause := rfl
@[simp] theorem setPlay_slots (s : State) (id : Nat) (x : Option Play) : (s.setPlay id x).slots = s.slots := rfl
@[simp] theorem setPlay_plays (s : State) (id : Nat) (x : Option Play) : (s.setPlay id x).plays = put1 s.plays id x := rfl
@[simp] theorem setPlay_frozen (s : State) (id : Nat) (x : Option Play) : (s.setPlay id x).frozen = s.frozen := rfl
@[simp] theorem setPlay_claims (s : State) (id : Nat) (x : Option Play) : (s.setPlay id x).claims = s.claims := rfl
@[simp] theorem setPlay_channels (s : State) (id : Nat) (x : Option Play) : (s.setPlay id x).channels = s.channels := rfl
@[simp] theorem setPlay_thermal (s : State) (id : Nat) (x : Option Play) : (s.setPlay id x).thermal = s.thermal := rfl
@[simp] theorem setPlay_lines (s : State) (id : Nat) (x : Option Play) : (s.setPlay id x).lines = s.lines := rfl
@[simp] theorem setPlay_patterns (s : State) (id : Nat) (x : Option Play) : (s.setPlay id x).patterns = s.patterns := rfl
@[simp] theorem setPlay_watchdog (s : State) (id : Nat) (x : Option Play) : (s.setPlay id x).watchdog = s.watchdog := rfl
@[simp] theorem setPlay_fallbackOn (s : State) (id : Nat) (x : Option Play) : (s.setPlay id x).fallbackOn = s.fallbackOn := rfl
@[simp] theorem setPlay_entryCount (s : State) (id : Nat) (x : Option Play) : (s.setPlay id x).entryCount = s.entryCount := rfl
@[simp] theorem setPlay_receiver (s : State) (id : Nat) (x : Option Play) : (s.setPlay id x).receiver = s.receiver := rfl
@[simp] theorem setPlay_linkReply (s : State) (id : Nat) (x : Option Play) : (s.setPlay id x).linkReply = s.linkReply := rfl
@[simp] theorem setPlay_linkAddress (s : State) (id : Nat) (x : Option Play) : (s.setPlay id x).linkAddress = s.linkAddress := rfl
@[simp] theorem setPlay_linkBaud (s : State) (id : Nat) (x : Option Play) : (s.setPlay id x).linkBaud = s.linkBaud := rfl
@[simp] theorem setPlay_spAddress (s : State) (id : Nat) (x : Option Play) : (s.setPlay id x).spAddress = s.spAddress := rfl
@[simp] theorem setPlay_spReply (s : State) (id : Nat) (x : Option Play) : (s.setPlay id x).spReply = s.spReply := rfl
@[simp] theorem setPlay_spWrite (s : State) (id : Nat) (x : Option Play) : (s.setPlay id x).spWrite = s.spWrite := rfl
@[simp] theorem setPlay_spReading (s : State) (id : Nat) (x : Option Play) : (s.setPlay id x).spReading = s.spReading := rfl
@[simp] theorem setPlay_serviceMode (s : State) (id : Nat) (x : Option Play) : (s.setPlay id x).serviceMode = s.serviceMode := rfl
@[simp] theorem setPlay_spAck (s : State) (id : Nat) (x : Option Play) : (s.setPlay id x).spAck = s.spAck := rfl
@[simp] theorem setPlay_spOut (s : State) (id : Nat) (x : Option Play) : (s.setPlay id x).spOut = s.spOut := rfl
@[simp] theorem setPlay_config (s : State) (id : Nat) (x : Option Play) : (s.setPlay id x).config = s.config := rfl
@[simp] theorem setPlay_store (s : State) (id : Nat) (x : Option Play) : (s.setPlay id x).store = s.store := rfl
@[simp] theorem setPlay_imageValid (s : State) (id : Nat) (x : Option Play) : (s.setPlay id x).imageValid = s.imageValid := rfl
@[simp] theorem setPlay_resumeSet (s : State) (id : Nat) (x : Option Play) : (s.setPlay id x).resumeSet = s.resumeSet := rfl
@[simp] theorem setPlay_image (s : State) (id : Nat) (x : Option Play) : (s.setPlay id x).image = s.image := rfl
@[simp] theorem setPlay_checkGood (s : State) (id : Nat) (x : Option Play) : (s.setPlay id x).checkGood = s.checkGood := rfl
@[simp] theorem setPlay_flags (s : State) (id : Nat) (x : Option Play) : (s.setPlay id x).flags = s.flags := rfl
@[simp] theorem setPlay_lastRefusal (s : State) (id : Nat) (x : Option Play) : (s.setPlay id x).lastRefusal = s.lastRefusal := rfl
@[simp] theorem setPlay_lastEviction (s : State) (id : Nat) (x : Option Play) : (s.setPlay id x).lastEviction = s.lastEviction := rfl

/-! ## `State.setChannel` -/

@[simp] theorem setChannel_pending (s : State) (c : Nat) (x : Channel) : (s.setChannel c x).pending = s.pending := rfl
@[simp] theorem setChannel_ties (s : State) (c : Nat) (x : Channel) : (s.setChannel c x).ties = s.ties := rfl
@[simp] theorem setChannel_micros (s : State) (c : Nat) (x : Channel) : (s.setChannel c x).micros = s.micros := rfl
@[simp] theorem setChannel_powered (s : State) (c : Nat) (x : Channel) : (s.setChannel c x).powered = s.powered := rfl
@[simp] theorem setChannel_rstnLow (s : State) (c : Nat) (x : Channel) : (s.setChannel c x).rstnLow = s.rstnLow := rfl
@[simp] theorem setChannel_sa1 (s : State) (c : Nat) (x : Channel) : (s.setChannel c x).sa1 = s.sa1 := rfl
@[simp] theorem setChannel_sa0 (s : State) (c : Nat) (x : Channel) : (s.setChannel c x).sa0 = s.sa0 := rfl
@[simp] theorem setChannel_stage (s : State) (c : Nat) (x : Channel) : (s.setChannel c x).stage = s.stage := rfl
@[simp] theorem setChannel_resetCause (s : State) (c : Nat) (x : Channel) : (s.setChannel c x).resetCause = s.resetCause := rfl
@[simp] theorem setChannel_slots (s : State) (c : Nat) (x : Channel) : (s.setChannel c x).slots = s.slots := rfl
@[simp] theorem setChannel_plays (s : State) (c : Nat) (x : Channel) : (s.setChannel c x).plays = s.plays := rfl
@[simp] theorem setChannel_frozen (s : State) (c : Nat) (x : Channel) : (s.setChannel c x).frozen = s.frozen := rfl
@[simp] theorem setChannel_claims (s : State) (c : Nat) (x : Channel) : (s.setChannel c x).claims = s.claims := rfl
@[simp] theorem setChannel_channels (s : State) (c : Nat) (x : Channel) : (s.setChannel c x).channels = put1 s.channels c x := rfl
@[simp] theorem setChannel_thermal (s : State) (c : Nat) (x : Channel) : (s.setChannel c x).thermal = s.thermal := rfl
@[simp] theorem setChannel_lines (s : State) (c : Nat) (x : Channel) : (s.setChannel c x).lines = s.lines := rfl
@[simp] theorem setChannel_patterns (s : State) (c : Nat) (x : Channel) : (s.setChannel c x).patterns = s.patterns := rfl
@[simp] theorem setChannel_watchdog (s : State) (c : Nat) (x : Channel) : (s.setChannel c x).watchdog = s.watchdog := rfl
@[simp] theorem setChannel_fallbackOn (s : State) (c : Nat) (x : Channel) : (s.setChannel c x).fallbackOn = s.fallbackOn := rfl
@[simp] theorem setChannel_entryCount (s : State) (c : Nat) (x : Channel) : (s.setChannel c x).entryCount = s.entryCount := rfl
@[simp] theorem setChannel_receiver (s : State) (c : Nat) (x : Channel) : (s.setChannel c x).receiver = s.receiver := rfl
@[simp] theorem setChannel_linkReply (s : State) (c : Nat) (x : Channel) : (s.setChannel c x).linkReply = s.linkReply := rfl
@[simp] theorem setChannel_linkAddress (s : State) (c : Nat) (x : Channel) : (s.setChannel c x).linkAddress = s.linkAddress := rfl
@[simp] theorem setChannel_linkBaud (s : State) (c : Nat) (x : Channel) : (s.setChannel c x).linkBaud = s.linkBaud := rfl
@[simp] theorem setChannel_spAddress (s : State) (c : Nat) (x : Channel) : (s.setChannel c x).spAddress = s.spAddress := rfl
@[simp] theorem setChannel_spReply (s : State) (c : Nat) (x : Channel) : (s.setChannel c x).spReply = s.spReply := rfl
@[simp] theorem setChannel_spWrite (s : State) (c : Nat) (x : Channel) : (s.setChannel c x).spWrite = s.spWrite := rfl
@[simp] theorem setChannel_spReading (s : State) (c : Nat) (x : Channel) : (s.setChannel c x).spReading = s.spReading := rfl
@[simp] theorem setChannel_serviceMode (s : State) (c : Nat) (x : Channel) : (s.setChannel c x).serviceMode = s.serviceMode := rfl
@[simp] theorem setChannel_spAck (s : State) (c : Nat) (x : Channel) : (s.setChannel c x).spAck = s.spAck := rfl
@[simp] theorem setChannel_spOut (s : State) (c : Nat) (x : Channel) : (s.setChannel c x).spOut = s.spOut := rfl
@[simp] theorem setChannel_config (s : State) (c : Nat) (x : Channel) : (s.setChannel c x).config = s.config := rfl
@[simp] theorem setChannel_store (s : State) (c : Nat) (x : Channel) : (s.setChannel c x).store = s.store := rfl
@[simp] theorem setChannel_imageValid (s : State) (c : Nat) (x : Channel) : (s.setChannel c x).imageValid = s.imageValid := rfl
@[simp] theorem setChannel_resumeSet (s : State) (c : Nat) (x : Channel) : (s.setChannel c x).resumeSet = s.resumeSet := rfl
@[simp] theorem setChannel_image (s : State) (c : Nat) (x : Channel) : (s.setChannel c x).image = s.image := rfl
@[simp] theorem setChannel_checkGood (s : State) (c : Nat) (x : Channel) : (s.setChannel c x).checkGood = s.checkGood := rfl
@[simp] theorem setChannel_flags (s : State) (c : Nat) (x : Channel) : (s.setChannel c x).flags = s.flags := rfl
@[simp] theorem setChannel_lastRefusal (s : State) (c : Nat) (x : Channel) : (s.setChannel c x).lastRefusal = s.lastRefusal := rfl
@[simp] theorem setChannel_lastEviction (s : State) (c : Nat) (x : Channel) : (s.setChannel c x).lastEviction = s.lastEviction := rfl

/-! ## `State.setLine` -/

@[simp] theorem setLine_pending (s : State) (l : Nat) (x : Line) : (s.setLine l x).pending = s.pending := rfl
@[simp] theorem setLine_ties (s : State) (l : Nat) (x : Line) : (s.setLine l x).ties = s.ties := rfl
@[simp] theorem setLine_micros (s : State) (l : Nat) (x : Line) : (s.setLine l x).micros = s.micros := rfl
@[simp] theorem setLine_powered (s : State) (l : Nat) (x : Line) : (s.setLine l x).powered = s.powered := rfl
@[simp] theorem setLine_rstnLow (s : State) (l : Nat) (x : Line) : (s.setLine l x).rstnLow = s.rstnLow := rfl
@[simp] theorem setLine_sa1 (s : State) (l : Nat) (x : Line) : (s.setLine l x).sa1 = s.sa1 := rfl
@[simp] theorem setLine_sa0 (s : State) (l : Nat) (x : Line) : (s.setLine l x).sa0 = s.sa0 := rfl
@[simp] theorem setLine_stage (s : State) (l : Nat) (x : Line) : (s.setLine l x).stage = s.stage := rfl
@[simp] theorem setLine_resetCause (s : State) (l : Nat) (x : Line) : (s.setLine l x).resetCause = s.resetCause := rfl
@[simp] theorem setLine_slots (s : State) (l : Nat) (x : Line) : (s.setLine l x).slots = s.slots := rfl
@[simp] theorem setLine_plays (s : State) (l : Nat) (x : Line) : (s.setLine l x).plays = s.plays := rfl
@[simp] theorem setLine_frozen (s : State) (l : Nat) (x : Line) : (s.setLine l x).frozen = s.frozen := rfl
@[simp] theorem setLine_claims (s : State) (l : Nat) (x : Line) : (s.setLine l x).claims = s.claims := rfl
@[simp] theorem setLine_channels (s : State) (l : Nat) (x : Line) : (s.setLine l x).channels = s.channels := rfl
@[simp] theorem setLine_thermal (s : State) (l : Nat) (x : Line) : (s.setLine l x).thermal = s.thermal := rfl
@[simp] theorem setLine_lines (s : State) (l : Nat) (x : Line) : (s.setLine l x).lines = put1 s.lines l x := rfl
@[simp] theorem setLine_patterns (s : State) (l : Nat) (x : Line) : (s.setLine l x).patterns = s.patterns := rfl
@[simp] theorem setLine_watchdog (s : State) (l : Nat) (x : Line) : (s.setLine l x).watchdog = s.watchdog := rfl
@[simp] theorem setLine_fallbackOn (s : State) (l : Nat) (x : Line) : (s.setLine l x).fallbackOn = s.fallbackOn := rfl
@[simp] theorem setLine_entryCount (s : State) (l : Nat) (x : Line) : (s.setLine l x).entryCount = s.entryCount := rfl
@[simp] theorem setLine_receiver (s : State) (l : Nat) (x : Line) : (s.setLine l x).receiver = s.receiver := rfl
@[simp] theorem setLine_linkReply (s : State) (l : Nat) (x : Line) : (s.setLine l x).linkReply = s.linkReply := rfl
@[simp] theorem setLine_linkAddress (s : State) (l : Nat) (x : Line) : (s.setLine l x).linkAddress = s.linkAddress := rfl
@[simp] theorem setLine_linkBaud (s : State) (l : Nat) (x : Line) : (s.setLine l x).linkBaud = s.linkBaud := rfl
@[simp] theorem setLine_spAddress (s : State) (l : Nat) (x : Line) : (s.setLine l x).spAddress = s.spAddress := rfl
@[simp] theorem setLine_spReply (s : State) (l : Nat) (x : Line) : (s.setLine l x).spReply = s.spReply := rfl
@[simp] theorem setLine_spWrite (s : State) (l : Nat) (x : Line) : (s.setLine l x).spWrite = s.spWrite := rfl
@[simp] theorem setLine_spReading (s : State) (l : Nat) (x : Line) : (s.setLine l x).spReading = s.spReading := rfl
@[simp] theorem setLine_serviceMode (s : State) (l : Nat) (x : Line) : (s.setLine l x).serviceMode = s.serviceMode := rfl
@[simp] theorem setLine_spAck (s : State) (l : Nat) (x : Line) : (s.setLine l x).spAck = s.spAck := rfl
@[simp] theorem setLine_spOut (s : State) (l : Nat) (x : Line) : (s.setLine l x).spOut = s.spOut := rfl
@[simp] theorem setLine_config (s : State) (l : Nat) (x : Line) : (s.setLine l x).config = s.config := rfl
@[simp] theorem setLine_store (s : State) (l : Nat) (x : Line) : (s.setLine l x).store = s.store := rfl
@[simp] theorem setLine_imageValid (s : State) (l : Nat) (x : Line) : (s.setLine l x).imageValid = s.imageValid := rfl
@[simp] theorem setLine_resumeSet (s : State) (l : Nat) (x : Line) : (s.setLine l x).resumeSet = s.resumeSet := rfl
@[simp] theorem setLine_image (s : State) (l : Nat) (x : Line) : (s.setLine l x).image = s.image := rfl
@[simp] theorem setLine_checkGood (s : State) (l : Nat) (x : Line) : (s.setLine l x).checkGood = s.checkGood := rfl
@[simp] theorem setLine_flags (s : State) (l : Nat) (x : Line) : (s.setLine l x).flags = s.flags := rfl
@[simp] theorem setLine_lastRefusal (s : State) (l : Nat) (x : Line) : (s.setLine l x).lastRefusal = s.lastRefusal := rfl
@[simp] theorem setLine_lastEviction (s : State) (l : Nat) (x : Line) : (s.setLine l x).lastEviction = s.lastEviction := rfl

/-! ## `State.setPattern` -/

@[simp] theorem setPattern_pending (s : State) (k : Nat) (x : Pattern) : (s.setPattern k x).pending = s.pending := rfl
@[simp] theorem setPattern_ties (s : State) (k : Nat) (x : Pattern) : (s.setPattern k x).ties = s.ties := rfl
@[simp] theorem setPattern_micros (s : State) (k : Nat) (x : Pattern) : (s.setPattern k x).micros = s.micros := rfl
@[simp] theorem setPattern_powered (s : State) (k : Nat) (x : Pattern) : (s.setPattern k x).powered = s.powered := rfl
@[simp] theorem setPattern_rstnLow (s : State) (k : Nat) (x : Pattern) : (s.setPattern k x).rstnLow = s.rstnLow := rfl
@[simp] theorem setPattern_sa1 (s : State) (k : Nat) (x : Pattern) : (s.setPattern k x).sa1 = s.sa1 := rfl
@[simp] theorem setPattern_sa0 (s : State) (k : Nat) (x : Pattern) : (s.setPattern k x).sa0 = s.sa0 := rfl
@[simp] theorem setPattern_stage (s : State) (k : Nat) (x : Pattern) : (s.setPattern k x).stage = s.stage := rfl
@[simp] theorem setPattern_resetCause (s : State) (k : Nat) (x : Pattern) : (s.setPattern k x).resetCause = s.resetCause := rfl
@[simp] theorem setPattern_slots (s : State) (k : Nat) (x : Pattern) : (s.setPattern k x).slots = s.slots := rfl
@[simp] theorem setPattern_plays (s : State) (k : Nat) (x : Pattern) : (s.setPattern k x).plays = s.plays := rfl
@[simp] theorem setPattern_frozen (s : State) (k : Nat) (x : Pattern) : (s.setPattern k x).frozen = s.frozen := rfl
@[simp] theorem setPattern_claims (s : State) (k : Nat) (x : Pattern) : (s.setPattern k x).claims = s.claims := rfl
@[simp] theorem setPattern_channels (s : State) (k : Nat) (x : Pattern) : (s.setPattern k x).channels = s.channels := rfl
@[simp] theorem setPattern_thermal (s : State) (k : Nat) (x : Pattern) : (s.setPattern k x).thermal = s.thermal := rfl
@[simp] theorem setPattern_lines (s : State) (k : Nat) (x : Pattern) : (s.setPattern k x).lines = s.lines := rfl
@[simp] theorem setPattern_patterns (s : State) (k : Nat) (x : Pattern) : (s.setPattern k x).patterns = put1 s.patterns k x := rfl
@[simp] theorem setPattern_watchdog (s : State) (k : Nat) (x : Pattern) : (s.setPattern k x).watchdog = s.watchdog := rfl
@[simp] theorem setPattern_fallbackOn (s : State) (k : Nat) (x : Pattern) : (s.setPattern k x).fallbackOn = s.fallbackOn := rfl
@[simp] theorem setPattern_entryCount (s : State) (k : Nat) (x : Pattern) : (s.setPattern k x).entryCount = s.entryCount := rfl
@[simp] theorem setPattern_receiver (s : State) (k : Nat) (x : Pattern) : (s.setPattern k x).receiver = s.receiver := rfl
@[simp] theorem setPattern_linkReply (s : State) (k : Nat) (x : Pattern) : (s.setPattern k x).linkReply = s.linkReply := rfl
@[simp] theorem setPattern_linkAddress (s : State) (k : Nat) (x : Pattern) : (s.setPattern k x).linkAddress = s.linkAddress := rfl
@[simp] theorem setPattern_linkBaud (s : State) (k : Nat) (x : Pattern) : (s.setPattern k x).linkBaud = s.linkBaud := rfl
@[simp] theorem setPattern_spAddress (s : State) (k : Nat) (x : Pattern) : (s.setPattern k x).spAddress = s.spAddress := rfl
@[simp] theorem setPattern_spReply (s : State) (k : Nat) (x : Pattern) : (s.setPattern k x).spReply = s.spReply := rfl
@[simp] theorem setPattern_spWrite (s : State) (k : Nat) (x : Pattern) : (s.setPattern k x).spWrite = s.spWrite := rfl
@[simp] theorem setPattern_spReading (s : State) (k : Nat) (x : Pattern) : (s.setPattern k x).spReading = s.spReading := rfl
@[simp] theorem setPattern_serviceMode (s : State) (k : Nat) (x : Pattern) : (s.setPattern k x).serviceMode = s.serviceMode := rfl
@[simp] theorem setPattern_spAck (s : State) (k : Nat) (x : Pattern) : (s.setPattern k x).spAck = s.spAck := rfl
@[simp] theorem setPattern_spOut (s : State) (k : Nat) (x : Pattern) : (s.setPattern k x).spOut = s.spOut := rfl
@[simp] theorem setPattern_config (s : State) (k : Nat) (x : Pattern) : (s.setPattern k x).config = s.config := rfl
@[simp] theorem setPattern_store (s : State) (k : Nat) (x : Pattern) : (s.setPattern k x).store = s.store := rfl
@[simp] theorem setPattern_imageValid (s : State) (k : Nat) (x : Pattern) : (s.setPattern k x).imageValid = s.imageValid := rfl
@[simp] theorem setPattern_resumeSet (s : State) (k : Nat) (x : Pattern) : (s.setPattern k x).resumeSet = s.resumeSet := rfl
@[simp] theorem setPattern_image (s : State) (k : Nat) (x : Pattern) : (s.setPattern k x).image = s.image := rfl
@[simp] theorem setPattern_checkGood (s : State) (k : Nat) (x : Pattern) : (s.setPattern k x).checkGood = s.checkGood := rfl
@[simp] theorem setPattern_flags (s : State) (k : Nat) (x : Pattern) : (s.setPattern k x).flags = s.flags := rfl
@[simp] theorem setPattern_lastRefusal (s : State) (k : Nat) (x : Pattern) : (s.setPattern k x).lastRefusal = s.lastRefusal := rfl
@[simp] theorem setPattern_lastEviction (s : State) (k : Nat) (x : Pattern) : (s.setPattern k x).lastEviction = s.lastEviction := rfl

/-! ## `State.raise` -/

@[simp] theorem raise_pending (s : State) (e : EventFlag) : (s.raise e).pending = s.pending := rfl
@[simp] theorem raise_ties (s : State) (e : EventFlag) : (s.raise e).ties = s.ties := rfl
@[simp] theorem raise_micros (s : State) (e : EventFlag) : (s.raise e).micros = s.micros := rfl
@[simp] theorem raise_powered (s : State) (e : EventFlag) : (s.raise e).powered = s.powered := rfl
@[simp] theorem raise_rstnLow (s : State) (e : EventFlag) : (s.raise e).rstnLow = s.rstnLow := rfl
@[simp] theorem raise_sa1 (s : State) (e : EventFlag) : (s.raise e).sa1 = s.sa1 := rfl
@[simp] theorem raise_sa0 (s : State) (e : EventFlag) : (s.raise e).sa0 = s.sa0 := rfl
@[simp] theorem raise_stage (s : State) (e : EventFlag) : (s.raise e).stage = s.stage := rfl
@[simp] theorem raise_resetCause (s : State) (e : EventFlag) : (s.raise e).resetCause = s.resetCause := rfl
@[simp] theorem raise_slots (s : State) (e : EventFlag) : (s.raise e).slots = s.slots := rfl
@[simp] theorem raise_plays (s : State) (e : EventFlag) : (s.raise e).plays = s.plays := rfl
@[simp] theorem raise_frozen (s : State) (e : EventFlag) : (s.raise e).frozen = s.frozen := rfl
@[simp] theorem raise_claims (s : State) (e : EventFlag) : (s.raise e).claims = s.claims := rfl
@[simp] theorem raise_channels (s : State) (e : EventFlag) : (s.raise e).channels = s.channels := rfl
@[simp] theorem raise_thermal (s : State) (e : EventFlag) : (s.raise e).thermal = s.thermal := rfl
@[simp] theorem raise_lines (s : State) (e : EventFlag) : (s.raise e).lines = s.lines := rfl
@[simp] theorem raise_patterns (s : State) (e : EventFlag) : (s.raise e).patterns = s.patterns := rfl
@[simp] theorem raise_watchdog (s : State) (e : EventFlag) : (s.raise e).watchdog = s.watchdog := rfl
@[simp] theorem raise_fallbackOn (s : State) (e : EventFlag) : (s.raise e).fallbackOn = s.fallbackOn := rfl
@[simp] theorem raise_entryCount (s : State) (e : EventFlag) : (s.raise e).entryCount = s.entryCount := rfl
@[simp] theorem raise_receiver (s : State) (e : EventFlag) : (s.raise e).receiver = s.receiver := rfl
@[simp] theorem raise_linkReply (s : State) (e : EventFlag) : (s.raise e).linkReply = s.linkReply := rfl
@[simp] theorem raise_linkAddress (s : State) (e : EventFlag) : (s.raise e).linkAddress = s.linkAddress := rfl
@[simp] theorem raise_linkBaud (s : State) (e : EventFlag) : (s.raise e).linkBaud = s.linkBaud := rfl
@[simp] theorem raise_spAddress (s : State) (e : EventFlag) : (s.raise e).spAddress = s.spAddress := rfl
@[simp] theorem raise_spReply (s : State) (e : EventFlag) : (s.raise e).spReply = s.spReply := rfl
@[simp] theorem raise_spWrite (s : State) (e : EventFlag) : (s.raise e).spWrite = s.spWrite := rfl
@[simp] theorem raise_spReading (s : State) (e : EventFlag) : (s.raise e).spReading = s.spReading := rfl
@[simp] theorem raise_serviceMode (s : State) (e : EventFlag) : (s.raise e).serviceMode = s.serviceMode := rfl
@[simp] theorem raise_spAck (s : State) (e : EventFlag) : (s.raise e).spAck = s.spAck := rfl
@[simp] theorem raise_spOut (s : State) (e : EventFlag) : (s.raise e).spOut = s.spOut := rfl
@[simp] theorem raise_config (s : State) (e : EventFlag) : (s.raise e).config = s.config := rfl
@[simp] theorem raise_store (s : State) (e : EventFlag) : (s.raise e).store = s.store := rfl
@[simp] theorem raise_imageValid (s : State) (e : EventFlag) : (s.raise e).imageValid = s.imageValid := rfl
@[simp] theorem raise_resumeSet (s : State) (e : EventFlag) : (s.raise e).resumeSet = s.resumeSet := rfl
@[simp] theorem raise_image (s : State) (e : EventFlag) : (s.raise e).image = s.image := rfl
@[simp] theorem raise_checkGood (s : State) (e : EventFlag) : (s.raise e).checkGood = s.checkGood := rfl
@[simp] theorem raise_flags (s : State) (e : EventFlag) : (s.raise e).flags = s.flags ||| e.set := rfl
@[simp] theorem raise_lastRefusal (s : State) (e : EventFlag) : (s.raise e).lastRefusal = s.lastRefusal := rfl
@[simp] theorem raise_lastEviction (s : State) (e : EventFlag) : (s.raise e).lastEviction = s.lastEviction := rfl

/-! ## `State.clearFlags` -/

@[simp] theorem clearFlags_pending (s : State) (named : EventSet) : (s.clearFlags named).pending = s.pending := rfl
@[simp] theorem clearFlags_ties (s : State) (named : EventSet) : (s.clearFlags named).ties = s.ties := rfl
@[simp] theorem clearFlags_micros (s : State) (named : EventSet) : (s.clearFlags named).micros = s.micros := rfl
@[simp] theorem clearFlags_powered (s : State) (named : EventSet) : (s.clearFlags named).powered = s.powered := rfl
@[simp] theorem clearFlags_rstnLow (s : State) (named : EventSet) : (s.clearFlags named).rstnLow = s.rstnLow := rfl
@[simp] theorem clearFlags_sa1 (s : State) (named : EventSet) : (s.clearFlags named).sa1 = s.sa1 := rfl
@[simp] theorem clearFlags_sa0 (s : State) (named : EventSet) : (s.clearFlags named).sa0 = s.sa0 := rfl
@[simp] theorem clearFlags_stage (s : State) (named : EventSet) : (s.clearFlags named).stage = s.stage := rfl
@[simp] theorem clearFlags_resetCause (s : State) (named : EventSet) : (s.clearFlags named).resetCause = s.resetCause := rfl
@[simp] theorem clearFlags_slots (s : State) (named : EventSet) : (s.clearFlags named).slots = s.slots := rfl
@[simp] theorem clearFlags_plays (s : State) (named : EventSet) : (s.clearFlags named).plays = s.plays := rfl
@[simp] theorem clearFlags_frozen (s : State) (named : EventSet) : (s.clearFlags named).frozen = s.frozen := rfl
@[simp] theorem clearFlags_claims (s : State) (named : EventSet) : (s.clearFlags named).claims = s.claims := rfl
@[simp] theorem clearFlags_channels (s : State) (named : EventSet) : (s.clearFlags named).channels = s.channels := rfl
@[simp] theorem clearFlags_thermal (s : State) (named : EventSet) : (s.clearFlags named).thermal = s.thermal := rfl
@[simp] theorem clearFlags_lines (s : State) (named : EventSet) : (s.clearFlags named).lines = s.lines := rfl
@[simp] theorem clearFlags_patterns (s : State) (named : EventSet) : (s.clearFlags named).patterns = s.patterns := rfl
@[simp] theorem clearFlags_watchdog (s : State) (named : EventSet) : (s.clearFlags named).watchdog = s.watchdog := rfl
@[simp] theorem clearFlags_fallbackOn (s : State) (named : EventSet) : (s.clearFlags named).fallbackOn = s.fallbackOn := rfl
@[simp] theorem clearFlags_entryCount (s : State) (named : EventSet) : (s.clearFlags named).entryCount = s.entryCount := rfl
@[simp] theorem clearFlags_receiver (s : State) (named : EventSet) : (s.clearFlags named).receiver = s.receiver := rfl
@[simp] theorem clearFlags_linkReply (s : State) (named : EventSet) : (s.clearFlags named).linkReply = s.linkReply := rfl
@[simp] theorem clearFlags_linkAddress (s : State) (named : EventSet) : (s.clearFlags named).linkAddress = s.linkAddress := rfl
@[simp] theorem clearFlags_linkBaud (s : State) (named : EventSet) : (s.clearFlags named).linkBaud = s.linkBaud := rfl
@[simp] theorem clearFlags_spAddress (s : State) (named : EventSet) : (s.clearFlags named).spAddress = s.spAddress := rfl
@[simp] theorem clearFlags_spReply (s : State) (named : EventSet) : (s.clearFlags named).spReply = s.spReply := rfl
@[simp] theorem clearFlags_spWrite (s : State) (named : EventSet) : (s.clearFlags named).spWrite = s.spWrite := rfl
@[simp] theorem clearFlags_spReading (s : State) (named : EventSet) : (s.clearFlags named).spReading = s.spReading := rfl
@[simp] theorem clearFlags_serviceMode (s : State) (named : EventSet) : (s.clearFlags named).serviceMode = s.serviceMode := rfl
@[simp] theorem clearFlags_spAck (s : State) (named : EventSet) : (s.clearFlags named).spAck = s.spAck := rfl
@[simp] theorem clearFlags_spOut (s : State) (named : EventSet) : (s.clearFlags named).spOut = s.spOut := rfl
@[simp] theorem clearFlags_config (s : State) (named : EventSet) : (s.clearFlags named).config = s.config := rfl
@[simp] theorem clearFlags_store (s : State) (named : EventSet) : (s.clearFlags named).store = s.store := rfl
@[simp] theorem clearFlags_imageValid (s : State) (named : EventSet) : (s.clearFlags named).imageValid = s.imageValid := rfl
@[simp] theorem clearFlags_resumeSet (s : State) (named : EventSet) : (s.clearFlags named).resumeSet = s.resumeSet := rfl
@[simp] theorem clearFlags_image (s : State) (named : EventSet) : (s.clearFlags named).image = s.image := rfl
@[simp] theorem clearFlags_checkGood (s : State) (named : EventSet) : (s.clearFlags named).checkGood = s.checkGood := rfl
@[simp] theorem clearFlags_flags (s : State) (named : EventSet) : (s.clearFlags named).flags = s.flags &&& ~~~named := rfl
@[simp] theorem clearFlags_lastRefusal (s : State) (named : EventSet) : (s.clearFlags named).lastRefusal = s.lastRefusal := rfl
@[simp] theorem clearFlags_lastEviction (s : State) (named : EventSet) : (s.clearFlags named).lastEviction = s.lastEviction := rfl

/-! ## `State.raiseRefused` -/

@[simp] theorem raiseRefused_pending (s : State) (r : RefusalRecord) : (s.raiseRefused r).pending = s.pending := rfl
@[simp] theorem raiseRefused_ties (s : State) (r : RefusalRecord) : (s.raiseRefused r).ties = s.ties := rfl
@[simp] theorem raiseRefused_micros (s : State) (r : RefusalRecord) : (s.raiseRefused r).micros = s.micros := rfl
@[simp] theorem raiseRefused_powered (s : State) (r : RefusalRecord) : (s.raiseRefused r).powered = s.powered := rfl
@[simp] theorem raiseRefused_rstnLow (s : State) (r : RefusalRecord) : (s.raiseRefused r).rstnLow = s.rstnLow := rfl
@[simp] theorem raiseRefused_sa1 (s : State) (r : RefusalRecord) : (s.raiseRefused r).sa1 = s.sa1 := rfl
@[simp] theorem raiseRefused_sa0 (s : State) (r : RefusalRecord) : (s.raiseRefused r).sa0 = s.sa0 := rfl
@[simp] theorem raiseRefused_stage (s : State) (r : RefusalRecord) : (s.raiseRefused r).stage = s.stage := rfl
@[simp] theorem raiseRefused_resetCause (s : State) (r : RefusalRecord) : (s.raiseRefused r).resetCause = s.resetCause := rfl
@[simp] theorem raiseRefused_slots (s : State) (r : RefusalRecord) : (s.raiseRefused r).slots = s.slots := rfl
@[simp] theorem raiseRefused_plays (s : State) (r : RefusalRecord) : (s.raiseRefused r).plays = s.plays := rfl
@[simp] theorem raiseRefused_frozen (s : State) (r : RefusalRecord) : (s.raiseRefused r).frozen = s.frozen := rfl
@[simp] theorem raiseRefused_claims (s : State) (r : RefusalRecord) : (s.raiseRefused r).claims = s.claims := rfl
@[simp] theorem raiseRefused_channels (s : State) (r : RefusalRecord) : (s.raiseRefused r).channels = s.channels := rfl
@[simp] theorem raiseRefused_thermal (s : State) (r : RefusalRecord) : (s.raiseRefused r).thermal = s.thermal := rfl
@[simp] theorem raiseRefused_lines (s : State) (r : RefusalRecord) : (s.raiseRefused r).lines = s.lines := rfl
@[simp] theorem raiseRefused_patterns (s : State) (r : RefusalRecord) : (s.raiseRefused r).patterns = s.patterns := rfl
@[simp] theorem raiseRefused_watchdog (s : State) (r : RefusalRecord) : (s.raiseRefused r).watchdog = s.watchdog := rfl
@[simp] theorem raiseRefused_fallbackOn (s : State) (r : RefusalRecord) : (s.raiseRefused r).fallbackOn = s.fallbackOn := rfl
@[simp] theorem raiseRefused_entryCount (s : State) (r : RefusalRecord) : (s.raiseRefused r).entryCount = s.entryCount := rfl
@[simp] theorem raiseRefused_receiver (s : State) (r : RefusalRecord) : (s.raiseRefused r).receiver = s.receiver := rfl
@[simp] theorem raiseRefused_linkReply (s : State) (r : RefusalRecord) : (s.raiseRefused r).linkReply = s.linkReply := rfl
@[simp] theorem raiseRefused_linkAddress (s : State) (r : RefusalRecord) : (s.raiseRefused r).linkAddress = s.linkAddress := rfl
@[simp] theorem raiseRefused_linkBaud (s : State) (r : RefusalRecord) : (s.raiseRefused r).linkBaud = s.linkBaud := rfl
@[simp] theorem raiseRefused_spAddress (s : State) (r : RefusalRecord) : (s.raiseRefused r).spAddress = s.spAddress := rfl
@[simp] theorem raiseRefused_spReply (s : State) (r : RefusalRecord) : (s.raiseRefused r).spReply = s.spReply := rfl
@[simp] theorem raiseRefused_spWrite (s : State) (r : RefusalRecord) : (s.raiseRefused r).spWrite = s.spWrite := rfl
@[simp] theorem raiseRefused_spReading (s : State) (r : RefusalRecord) : (s.raiseRefused r).spReading = s.spReading := rfl
@[simp] theorem raiseRefused_serviceMode (s : State) (r : RefusalRecord) : (s.raiseRefused r).serviceMode = s.serviceMode := rfl
@[simp] theorem raiseRefused_spAck (s : State) (r : RefusalRecord) : (s.raiseRefused r).spAck = s.spAck := rfl
@[simp] theorem raiseRefused_spOut (s : State) (r : RefusalRecord) : (s.raiseRefused r).spOut = s.spOut := rfl
@[simp] theorem raiseRefused_config (s : State) (r : RefusalRecord) : (s.raiseRefused r).config = s.config := rfl
@[simp] theorem raiseRefused_store (s : State) (r : RefusalRecord) : (s.raiseRefused r).store = s.store := rfl
@[simp] theorem raiseRefused_imageValid (s : State) (r : RefusalRecord) : (s.raiseRefused r).imageValid = s.imageValid := rfl
@[simp] theorem raiseRefused_resumeSet (s : State) (r : RefusalRecord) : (s.raiseRefused r).resumeSet = s.resumeSet := rfl
@[simp] theorem raiseRefused_image (s : State) (r : RefusalRecord) : (s.raiseRefused r).image = s.image := rfl
@[simp] theorem raiseRefused_checkGood (s : State) (r : RefusalRecord) : (s.raiseRefused r).checkGood = s.checkGood := rfl
@[simp] theorem raiseRefused_flags (s : State) (r : RefusalRecord) : (s.raiseRefused r).flags = s.flags ||| EventFlag.triggerRefused.set := rfl
@[simp] theorem raiseRefused_lastRefusal (s : State) (r : RefusalRecord) : (s.raiseRefused r).lastRefusal = some r := rfl
@[simp] theorem raiseRefused_lastEviction (s : State) (r : RefusalRecord) : (s.raiseRefused r).lastEviction = s.lastEviction := rfl

/-! ## `State.raiseEviction` -/

@[simp] theorem raiseEviction_pending (s : State) (r : EvictionRecord) : (s.raiseEviction r).pending = s.pending := rfl
@[simp] theorem raiseEviction_ties (s : State) (r : EvictionRecord) : (s.raiseEviction r).ties = s.ties := rfl
@[simp] theorem raiseEviction_micros (s : State) (r : EvictionRecord) : (s.raiseEviction r).micros = s.micros := rfl
@[simp] theorem raiseEviction_powered (s : State) (r : EvictionRecord) : (s.raiseEviction r).powered = s.powered := rfl
@[simp] theorem raiseEviction_rstnLow (s : State) (r : EvictionRecord) : (s.raiseEviction r).rstnLow = s.rstnLow := rfl
@[simp] theorem raiseEviction_sa1 (s : State) (r : EvictionRecord) : (s.raiseEviction r).sa1 = s.sa1 := rfl
@[simp] theorem raiseEviction_sa0 (s : State) (r : EvictionRecord) : (s.raiseEviction r).sa0 = s.sa0 := rfl
@[simp] theorem raiseEviction_stage (s : State) (r : EvictionRecord) : (s.raiseEviction r).stage = s.stage := rfl
@[simp] theorem raiseEviction_resetCause (s : State) (r : EvictionRecord) : (s.raiseEviction r).resetCause = s.resetCause := rfl
@[simp] theorem raiseEviction_slots (s : State) (r : EvictionRecord) : (s.raiseEviction r).slots = s.slots := rfl
@[simp] theorem raiseEviction_plays (s : State) (r : EvictionRecord) : (s.raiseEviction r).plays = s.plays := rfl
@[simp] theorem raiseEviction_frozen (s : State) (r : EvictionRecord) : (s.raiseEviction r).frozen = s.frozen := rfl
@[simp] theorem raiseEviction_claims (s : State) (r : EvictionRecord) : (s.raiseEviction r).claims = s.claims := rfl
@[simp] theorem raiseEviction_channels (s : State) (r : EvictionRecord) : (s.raiseEviction r).channels = s.channels := rfl
@[simp] theorem raiseEviction_thermal (s : State) (r : EvictionRecord) : (s.raiseEviction r).thermal = s.thermal := rfl
@[simp] theorem raiseEviction_lines (s : State) (r : EvictionRecord) : (s.raiseEviction r).lines = s.lines := rfl
@[simp] theorem raiseEviction_patterns (s : State) (r : EvictionRecord) : (s.raiseEviction r).patterns = s.patterns := rfl
@[simp] theorem raiseEviction_watchdog (s : State) (r : EvictionRecord) : (s.raiseEviction r).watchdog = s.watchdog := rfl
@[simp] theorem raiseEviction_fallbackOn (s : State) (r : EvictionRecord) : (s.raiseEviction r).fallbackOn = s.fallbackOn := rfl
@[simp] theorem raiseEviction_entryCount (s : State) (r : EvictionRecord) : (s.raiseEviction r).entryCount = s.entryCount := rfl
@[simp] theorem raiseEviction_receiver (s : State) (r : EvictionRecord) : (s.raiseEviction r).receiver = s.receiver := rfl
@[simp] theorem raiseEviction_linkReply (s : State) (r : EvictionRecord) : (s.raiseEviction r).linkReply = s.linkReply := rfl
@[simp] theorem raiseEviction_linkAddress (s : State) (r : EvictionRecord) : (s.raiseEviction r).linkAddress = s.linkAddress := rfl
@[simp] theorem raiseEviction_linkBaud (s : State) (r : EvictionRecord) : (s.raiseEviction r).linkBaud = s.linkBaud := rfl
@[simp] theorem raiseEviction_spAddress (s : State) (r : EvictionRecord) : (s.raiseEviction r).spAddress = s.spAddress := rfl
@[simp] theorem raiseEviction_spReply (s : State) (r : EvictionRecord) : (s.raiseEviction r).spReply = s.spReply := rfl
@[simp] theorem raiseEviction_spWrite (s : State) (r : EvictionRecord) : (s.raiseEviction r).spWrite = s.spWrite := rfl
@[simp] theorem raiseEviction_spReading (s : State) (r : EvictionRecord) : (s.raiseEviction r).spReading = s.spReading := rfl
@[simp] theorem raiseEviction_serviceMode (s : State) (r : EvictionRecord) : (s.raiseEviction r).serviceMode = s.serviceMode := rfl
@[simp] theorem raiseEviction_spAck (s : State) (r : EvictionRecord) : (s.raiseEviction r).spAck = s.spAck := rfl
@[simp] theorem raiseEviction_spOut (s : State) (r : EvictionRecord) : (s.raiseEviction r).spOut = s.spOut := rfl
@[simp] theorem raiseEviction_config (s : State) (r : EvictionRecord) : (s.raiseEviction r).config = s.config := rfl
@[simp] theorem raiseEviction_store (s : State) (r : EvictionRecord) : (s.raiseEviction r).store = s.store := rfl
@[simp] theorem raiseEviction_imageValid (s : State) (r : EvictionRecord) : (s.raiseEviction r).imageValid = s.imageValid := rfl
@[simp] theorem raiseEviction_resumeSet (s : State) (r : EvictionRecord) : (s.raiseEviction r).resumeSet = s.resumeSet := rfl
@[simp] theorem raiseEviction_image (s : State) (r : EvictionRecord) : (s.raiseEviction r).image = s.image := rfl
@[simp] theorem raiseEviction_checkGood (s : State) (r : EvictionRecord) : (s.raiseEviction r).checkGood = s.checkGood := rfl
@[simp] theorem raiseEviction_flags (s : State) (r : EvictionRecord) : (s.raiseEviction r).flags = s.flags ||| EventFlag.eviction.set := rfl
@[simp] theorem raiseEviction_lastRefusal (s : State) (r : EvictionRecord) : (s.raiseEviction r).lastRefusal = s.lastRefusal := rfl
@[simp] theorem raiseEviction_lastEviction (s : State) (r : EvictionRecord) : (s.raiseEviction r).lastEviction = some r := rfl

/-! ## `State.removeClaims` -/

@[simp] theorem removeClaims_pending (s : State) (id : Nat) : (s.removeClaims id).pending = s.pending := rfl
@[simp] theorem removeClaims_ties (s : State) (id : Nat) : (s.removeClaims id).ties = s.ties := rfl
@[simp] theorem removeClaims_micros (s : State) (id : Nat) : (s.removeClaims id).micros = s.micros := rfl
@[simp] theorem removeClaims_powered (s : State) (id : Nat) : (s.removeClaims id).powered = s.powered := rfl
@[simp] theorem removeClaims_rstnLow (s : State) (id : Nat) : (s.removeClaims id).rstnLow = s.rstnLow := rfl
@[simp] theorem removeClaims_sa1 (s : State) (id : Nat) : (s.removeClaims id).sa1 = s.sa1 := rfl
@[simp] theorem removeClaims_sa0 (s : State) (id : Nat) : (s.removeClaims id).sa0 = s.sa0 := rfl
@[simp] theorem removeClaims_stage (s : State) (id : Nat) : (s.removeClaims id).stage = s.stage := rfl
@[simp] theorem removeClaims_resetCause (s : State) (id : Nat) : (s.removeClaims id).resetCause = s.resetCause := rfl
@[simp] theorem removeClaims_slots (s : State) (id : Nat) : (s.removeClaims id).slots = s.slots := rfl
@[simp] theorem removeClaims_plays (s : State) (id : Nat) : (s.removeClaims id).plays = s.plays := rfl
@[simp] theorem removeClaims_frozen (s : State) (id : Nat) : (s.removeClaims id).frozen = s.frozen := rfl
@[simp] theorem removeClaims_claims (s : State) (id : Nat) : (s.removeClaims id).claims = mapBank (fun l => l.filter (· != id)) s.claims := rfl
@[simp] theorem removeClaims_channels (s : State) (id : Nat) : (s.removeClaims id).channels = s.channels := rfl
@[simp] theorem removeClaims_thermal (s : State) (id : Nat) : (s.removeClaims id).thermal = s.thermal := rfl
@[simp] theorem removeClaims_lines (s : State) (id : Nat) : (s.removeClaims id).lines = s.lines := rfl
@[simp] theorem removeClaims_patterns (s : State) (id : Nat) : (s.removeClaims id).patterns = s.patterns := rfl
@[simp] theorem removeClaims_watchdog (s : State) (id : Nat) : (s.removeClaims id).watchdog = s.watchdog := rfl
@[simp] theorem removeClaims_fallbackOn (s : State) (id : Nat) : (s.removeClaims id).fallbackOn = s.fallbackOn := rfl
@[simp] theorem removeClaims_entryCount (s : State) (id : Nat) : (s.removeClaims id).entryCount = s.entryCount := rfl
@[simp] theorem removeClaims_receiver (s : State) (id : Nat) : (s.removeClaims id).receiver = s.receiver := rfl
@[simp] theorem removeClaims_linkReply (s : State) (id : Nat) : (s.removeClaims id).linkReply = s.linkReply := rfl
@[simp] theorem removeClaims_linkAddress (s : State) (id : Nat) : (s.removeClaims id).linkAddress = s.linkAddress := rfl
@[simp] theorem removeClaims_linkBaud (s : State) (id : Nat) : (s.removeClaims id).linkBaud = s.linkBaud := rfl
@[simp] theorem removeClaims_spAddress (s : State) (id : Nat) : (s.removeClaims id).spAddress = s.spAddress := rfl
@[simp] theorem removeClaims_spReply (s : State) (id : Nat) : (s.removeClaims id).spReply = s.spReply := rfl
@[simp] theorem removeClaims_spWrite (s : State) (id : Nat) : (s.removeClaims id).spWrite = s.spWrite := rfl
@[simp] theorem removeClaims_spReading (s : State) (id : Nat) : (s.removeClaims id).spReading = s.spReading := rfl
@[simp] theorem removeClaims_serviceMode (s : State) (id : Nat) : (s.removeClaims id).serviceMode = s.serviceMode := rfl
@[simp] theorem removeClaims_spAck (s : State) (id : Nat) : (s.removeClaims id).spAck = s.spAck := rfl
@[simp] theorem removeClaims_spOut (s : State) (id : Nat) : (s.removeClaims id).spOut = s.spOut := rfl
@[simp] theorem removeClaims_config (s : State) (id : Nat) : (s.removeClaims id).config = s.config := rfl
@[simp] theorem removeClaims_store (s : State) (id : Nat) : (s.removeClaims id).store = s.store := rfl
@[simp] theorem removeClaims_imageValid (s : State) (id : Nat) : (s.removeClaims id).imageValid = s.imageValid := rfl
@[simp] theorem removeClaims_resumeSet (s : State) (id : Nat) : (s.removeClaims id).resumeSet = s.resumeSet := rfl
@[simp] theorem removeClaims_image (s : State) (id : Nat) : (s.removeClaims id).image = s.image := rfl
@[simp] theorem removeClaims_checkGood (s : State) (id : Nat) : (s.removeClaims id).checkGood = s.checkGood := rfl
@[simp] theorem removeClaims_flags (s : State) (id : Nat) : (s.removeClaims id).flags = s.flags := rfl
@[simp] theorem removeClaims_lastRefusal (s : State) (id : Nat) : (s.removeClaims id).lastRefusal = s.lastRefusal := rfl
@[simp] theorem removeClaims_lastEviction (s : State) (id : Nat) : (s.removeClaims id).lastEviction = s.lastEviction := rfl

/-! ## `State.renameClaims` -/

@[simp] theorem renameClaims_pending (s : State) (old new : Nat) : (s.renameClaims old new).pending = s.pending := rfl
@[simp] theorem renameClaims_ties (s : State) (old new : Nat) : (s.renameClaims old new).ties = s.ties := rfl
@[simp] theorem renameClaims_micros (s : State) (old new : Nat) : (s.renameClaims old new).micros = s.micros := rfl
@[simp] theorem renameClaims_powered (s : State) (old new : Nat) : (s.renameClaims old new).powered = s.powered := rfl
@[simp] theorem renameClaims_rstnLow (s : State) (old new : Nat) : (s.renameClaims old new).rstnLow = s.rstnLow := rfl
@[simp] theorem renameClaims_sa1 (s : State) (old new : Nat) : (s.renameClaims old new).sa1 = s.sa1 := rfl
@[simp] theorem renameClaims_sa0 (s : State) (old new : Nat) : (s.renameClaims old new).sa0 = s.sa0 := rfl
@[simp] theorem renameClaims_stage (s : State) (old new : Nat) : (s.renameClaims old new).stage = s.stage := rfl
@[simp] theorem renameClaims_resetCause (s : State) (old new : Nat) : (s.renameClaims old new).resetCause = s.resetCause := rfl
@[simp] theorem renameClaims_slots (s : State) (old new : Nat) : (s.renameClaims old new).slots = s.slots := rfl
@[simp] theorem renameClaims_plays (s : State) (old new : Nat) : (s.renameClaims old new).plays = s.plays := rfl
@[simp] theorem renameClaims_frozen (s : State) (old new : Nat) : (s.renameClaims old new).frozen = s.frozen := rfl
@[simp] theorem renameClaims_claims (s : State) (old new : Nat) : (s.renameClaims old new).claims = mapBank (fun l => l.map fun id => if id = old then new else id) s.claims := rfl
@[simp] theorem renameClaims_channels (s : State) (old new : Nat) : (s.renameClaims old new).channels = s.channels := rfl
@[simp] theorem renameClaims_thermal (s : State) (old new : Nat) : (s.renameClaims old new).thermal = s.thermal := rfl
@[simp] theorem renameClaims_lines (s : State) (old new : Nat) : (s.renameClaims old new).lines = s.lines := rfl
@[simp] theorem renameClaims_patterns (s : State) (old new : Nat) : (s.renameClaims old new).patterns = s.patterns := rfl
@[simp] theorem renameClaims_watchdog (s : State) (old new : Nat) : (s.renameClaims old new).watchdog = s.watchdog := rfl
@[simp] theorem renameClaims_fallbackOn (s : State) (old new : Nat) : (s.renameClaims old new).fallbackOn = s.fallbackOn := rfl
@[simp] theorem renameClaims_entryCount (s : State) (old new : Nat) : (s.renameClaims old new).entryCount = s.entryCount := rfl
@[simp] theorem renameClaims_receiver (s : State) (old new : Nat) : (s.renameClaims old new).receiver = s.receiver := rfl
@[simp] theorem renameClaims_linkReply (s : State) (old new : Nat) : (s.renameClaims old new).linkReply = s.linkReply := rfl
@[simp] theorem renameClaims_linkAddress (s : State) (old new : Nat) : (s.renameClaims old new).linkAddress = s.linkAddress := rfl
@[simp] theorem renameClaims_linkBaud (s : State) (old new : Nat) : (s.renameClaims old new).linkBaud = s.linkBaud := rfl
@[simp] theorem renameClaims_spAddress (s : State) (old new : Nat) : (s.renameClaims old new).spAddress = s.spAddress := rfl
@[simp] theorem renameClaims_spReply (s : State) (old new : Nat) : (s.renameClaims old new).spReply = s.spReply := rfl
@[simp] theorem renameClaims_spWrite (s : State) (old new : Nat) : (s.renameClaims old new).spWrite = s.spWrite := rfl
@[simp] theorem renameClaims_spReading (s : State) (old new : Nat) : (s.renameClaims old new).spReading = s.spReading := rfl
@[simp] theorem renameClaims_serviceMode (s : State) (old new : Nat) : (s.renameClaims old new).serviceMode = s.serviceMode := rfl
@[simp] theorem renameClaims_spAck (s : State) (old new : Nat) : (s.renameClaims old new).spAck = s.spAck := rfl
@[simp] theorem renameClaims_spOut (s : State) (old new : Nat) : (s.renameClaims old new).spOut = s.spOut := rfl
@[simp] theorem renameClaims_config (s : State) (old new : Nat) : (s.renameClaims old new).config = s.config := rfl
@[simp] theorem renameClaims_store (s : State) (old new : Nat) : (s.renameClaims old new).store = s.store := rfl
@[simp] theorem renameClaims_imageValid (s : State) (old new : Nat) : (s.renameClaims old new).imageValid = s.imageValid := rfl
@[simp] theorem renameClaims_resumeSet (s : State) (old new : Nat) : (s.renameClaims old new).resumeSet = s.resumeSet := rfl
@[simp] theorem renameClaims_image (s : State) (old new : Nat) : (s.renameClaims old new).image = s.image := rfl
@[simp] theorem renameClaims_checkGood (s : State) (old new : Nat) : (s.renameClaims old new).checkGood = s.checkGood := rfl
@[simp] theorem renameClaims_flags (s : State) (old new : Nat) : (s.renameClaims old new).flags = s.flags := rfl
@[simp] theorem renameClaims_lastRefusal (s : State) (old new : Nat) : (s.renameClaims old new).lastRefusal = s.lastRefusal := rfl
@[simp] theorem renameClaims_lastEviction (s : State) (old new : Nat) : (s.renameClaims old new).lastEviction = s.lastEviction := rfl

/-! ## `State.drive` -/

@[simp] theorem drive_pending (s : State) : (s.drive).pending = s.pending := rfl
@[simp] theorem drive_ties (s : State) : (s.drive).ties = s.ties := rfl
@[simp] theorem drive_micros (s : State) : (s.drive).micros = s.micros := rfl
@[simp] theorem drive_powered (s : State) : (s.drive).powered = s.powered := rfl
@[simp] theorem drive_rstnLow (s : State) : (s.drive).rstnLow = s.rstnLow := rfl
@[simp] theorem drive_sa1 (s : State) : (s.drive).sa1 = s.sa1 := rfl
@[simp] theorem drive_sa0 (s : State) : (s.drive).sa0 = s.sa0 := rfl
@[simp] theorem drive_stage (s : State) : (s.drive).stage = s.stage := rfl
@[simp] theorem drive_resetCause (s : State) : (s.drive).resetCause = s.resetCause := rfl
@[simp] theorem drive_slots (s : State) : (s.drive).slots = s.slots := rfl
@[simp] theorem drive_plays (s : State) : (s.drive).plays = s.plays := rfl
@[simp] theorem drive_frozen (s : State) : (s.drive).frozen = s.frozen := rfl
@[simp] theorem drive_claims (s : State) : (s.drive).claims = s.claims := rfl
@[simp] theorem drive_channels (s : State) : (s.drive).channels = mapBank1 (fun c x => x.drive (s.outputLevel c x.state) s.config.goodRunTime) s.channels := rfl
@[simp] theorem drive_thermal (s : State) : (s.drive).thermal = s.thermal := rfl
@[simp] theorem drive_lines (s : State) : (s.drive).lines = s.lines := rfl
@[simp] theorem drive_patterns (s : State) : (s.drive).patterns = s.patterns := rfl
@[simp] theorem drive_watchdog (s : State) : (s.drive).watchdog = s.watchdog := rfl
@[simp] theorem drive_fallbackOn (s : State) : (s.drive).fallbackOn = s.fallbackOn := rfl
@[simp] theorem drive_entryCount (s : State) : (s.drive).entryCount = s.entryCount := rfl
@[simp] theorem drive_receiver (s : State) : (s.drive).receiver = s.receiver := rfl
@[simp] theorem drive_linkReply (s : State) : (s.drive).linkReply = s.linkReply := rfl
@[simp] theorem drive_linkAddress (s : State) : (s.drive).linkAddress = s.linkAddress := rfl
@[simp] theorem drive_linkBaud (s : State) : (s.drive).linkBaud = s.linkBaud := rfl
@[simp] theorem drive_spAddress (s : State) : (s.drive).spAddress = s.spAddress := rfl
@[simp] theorem drive_spReply (s : State) : (s.drive).spReply = s.spReply := rfl
@[simp] theorem drive_spWrite (s : State) : (s.drive).spWrite = s.spWrite := rfl
@[simp] theorem drive_spReading (s : State) : (s.drive).spReading = s.spReading := rfl
@[simp] theorem drive_serviceMode (s : State) : (s.drive).serviceMode = s.serviceMode := rfl
@[simp] theorem drive_spAck (s : State) : (s.drive).spAck = s.spAck := rfl
@[simp] theorem drive_spOut (s : State) : (s.drive).spOut = s.spOut := rfl
@[simp] theorem drive_config (s : State) : (s.drive).config = s.config := rfl
@[simp] theorem drive_store (s : State) : (s.drive).store = s.store := rfl
@[simp] theorem drive_imageValid (s : State) : (s.drive).imageValid = s.imageValid := rfl
@[simp] theorem drive_resumeSet (s : State) : (s.drive).resumeSet = s.resumeSet := rfl
@[simp] theorem drive_image (s : State) : (s.drive).image = s.image := rfl
@[simp] theorem drive_checkGood (s : State) : (s.drive).checkGood = s.checkGood := rfl
@[simp] theorem drive_flags (s : State) : (s.drive).flags = s.flags := rfl
@[simp] theorem drive_lastRefusal (s : State) : (s.drive).lastRefusal = s.lastRefusal := rfl
@[simp] theorem drive_lastEviction (s : State) : (s.drive).lastEviction = s.lastEviction := rfl

/-! ## `State.discardPersistences` -/

@[simp] theorem discardPersistences_pending (s : State) : (s.discardPersistences).pending = s.pending := rfl
@[simp] theorem discardPersistences_ties (s : State) : (s.discardPersistences).ties = s.ties := rfl
@[simp] theorem discardPersistences_micros (s : State) : (s.discardPersistences).micros = s.micros := rfl
@[simp] theorem discardPersistences_powered (s : State) : (s.discardPersistences).powered = s.powered := rfl
@[simp] theorem discardPersistences_rstnLow (s : State) : (s.discardPersistences).rstnLow = s.rstnLow := rfl
@[simp] theorem discardPersistences_sa1 (s : State) : (s.discardPersistences).sa1 = s.sa1 := rfl
@[simp] theorem discardPersistences_sa0 (s : State) : (s.discardPersistences).sa0 = s.sa0 := rfl
@[simp] theorem discardPersistences_stage (s : State) : (s.discardPersistences).stage = s.stage := rfl
@[simp] theorem discardPersistences_resetCause (s : State) : (s.discardPersistences).resetCause = s.resetCause := rfl
@[simp] theorem discardPersistences_slots (s : State) : (s.discardPersistences).slots = s.slots := rfl
@[simp] theorem discardPersistences_plays (s : State) : (s.discardPersistences).plays = s.plays := rfl
@[simp] theorem discardPersistences_frozen (s : State) : (s.discardPersistences).frozen = s.frozen := rfl
@[simp] theorem discardPersistences_claims (s : State) : (s.discardPersistences).claims = s.claims := rfl
@[simp] theorem discardPersistences_channels (s : State) : (s.discardPersistences).channels = mapBank Channel.discardAll s.channels := rfl
@[simp] theorem discardPersistences_thermal (s : State) : (s.discardPersistences).thermal = s.thermal := rfl
@[simp] theorem discardPersistences_lines (s : State) : (s.discardPersistences).lines = s.lines := rfl
@[simp] theorem discardPersistences_patterns (s : State) : (s.discardPersistences).patterns = s.patterns := rfl
@[simp] theorem discardPersistences_watchdog (s : State) : (s.discardPersistences).watchdog = s.watchdog := rfl
@[simp] theorem discardPersistences_fallbackOn (s : State) : (s.discardPersistences).fallbackOn = s.fallbackOn := rfl
@[simp] theorem discardPersistences_entryCount (s : State) : (s.discardPersistences).entryCount = s.entryCount := rfl
@[simp] theorem discardPersistences_receiver (s : State) : (s.discardPersistences).receiver = s.receiver := rfl
@[simp] theorem discardPersistences_linkReply (s : State) : (s.discardPersistences).linkReply = s.linkReply := rfl
@[simp] theorem discardPersistences_linkAddress (s : State) : (s.discardPersistences).linkAddress = s.linkAddress := rfl
@[simp] theorem discardPersistences_linkBaud (s : State) : (s.discardPersistences).linkBaud = s.linkBaud := rfl
@[simp] theorem discardPersistences_spAddress (s : State) : (s.discardPersistences).spAddress = s.spAddress := rfl
@[simp] theorem discardPersistences_spReply (s : State) : (s.discardPersistences).spReply = s.spReply := rfl
@[simp] theorem discardPersistences_spWrite (s : State) : (s.discardPersistences).spWrite = s.spWrite := rfl
@[simp] theorem discardPersistences_spReading (s : State) : (s.discardPersistences).spReading = s.spReading := rfl
@[simp] theorem discardPersistences_serviceMode (s : State) : (s.discardPersistences).serviceMode = s.serviceMode := rfl
@[simp] theorem discardPersistences_spAck (s : State) : (s.discardPersistences).spAck = s.spAck := rfl
@[simp] theorem discardPersistences_spOut (s : State) : (s.discardPersistences).spOut = s.spOut := rfl
@[simp] theorem discardPersistences_config (s : State) : (s.discardPersistences).config = s.config := rfl
@[simp] theorem discardPersistences_store (s : State) : (s.discardPersistences).store = s.store := rfl
@[simp] theorem discardPersistences_imageValid (s : State) : (s.discardPersistences).imageValid = s.imageValid := rfl
@[simp] theorem discardPersistences_resumeSet (s : State) : (s.discardPersistences).resumeSet = s.resumeSet := rfl
@[simp] theorem discardPersistences_image (s : State) : (s.discardPersistences).image = s.image := rfl
@[simp] theorem discardPersistences_checkGood (s : State) : (s.discardPersistences).checkGood = s.checkGood := rfl
@[simp] theorem discardPersistences_flags (s : State) : (s.discardPersistences).flags = s.flags := rfl
@[simp] theorem discardPersistences_lastRefusal (s : State) : (s.discardPersistences).lastRefusal = s.lastRefusal := rfl
@[simp] theorem discardPersistences_lastEviction (s : State) : (s.discardPersistences).lastEviction = s.lastEviction := rfl

/-! ## `State.restartGoodRuns` -/

@[simp] theorem restartGoodRuns_pending (s : State) : (s.restartGoodRuns).pending = s.pending := rfl
@[simp] theorem restartGoodRuns_ties (s : State) : (s.restartGoodRuns).ties = s.ties := rfl
@[simp] theorem restartGoodRuns_micros (s : State) : (s.restartGoodRuns).micros = s.micros := rfl
@[simp] theorem restartGoodRuns_powered (s : State) : (s.restartGoodRuns).powered = s.powered := rfl
@[simp] theorem restartGoodRuns_rstnLow (s : State) : (s.restartGoodRuns).rstnLow = s.rstnLow := rfl
@[simp] theorem restartGoodRuns_sa1 (s : State) : (s.restartGoodRuns).sa1 = s.sa1 := rfl
@[simp] theorem restartGoodRuns_sa0 (s : State) : (s.restartGoodRuns).sa0 = s.sa0 := rfl
@[simp] theorem restartGoodRuns_stage (s : State) : (s.restartGoodRuns).stage = s.stage := rfl
@[simp] theorem restartGoodRuns_resetCause (s : State) : (s.restartGoodRuns).resetCause = s.resetCause := rfl
@[simp] theorem restartGoodRuns_slots (s : State) : (s.restartGoodRuns).slots = s.slots := rfl
@[simp] theorem restartGoodRuns_plays (s : State) : (s.restartGoodRuns).plays = s.plays := rfl
@[simp] theorem restartGoodRuns_frozen (s : State) : (s.restartGoodRuns).frozen = s.frozen := rfl
@[simp] theorem restartGoodRuns_claims (s : State) : (s.restartGoodRuns).claims = s.claims := rfl
@[simp] theorem restartGoodRuns_channels (s : State) : (s.restartGoodRuns).channels = mapBank (·.restartGoodRun s.config.goodRunTime) s.channels := rfl
@[simp] theorem restartGoodRuns_thermal (s : State) : (s.restartGoodRuns).thermal = s.thermal := rfl
@[simp] theorem restartGoodRuns_lines (s : State) : (s.restartGoodRuns).lines = s.lines := rfl
@[simp] theorem restartGoodRuns_patterns (s : State) : (s.restartGoodRuns).patterns = s.patterns := rfl
@[simp] theorem restartGoodRuns_watchdog (s : State) : (s.restartGoodRuns).watchdog = s.watchdog := rfl
@[simp] theorem restartGoodRuns_fallbackOn (s : State) : (s.restartGoodRuns).fallbackOn = s.fallbackOn := rfl
@[simp] theorem restartGoodRuns_entryCount (s : State) : (s.restartGoodRuns).entryCount = s.entryCount := rfl
@[simp] theorem restartGoodRuns_receiver (s : State) : (s.restartGoodRuns).receiver = s.receiver := rfl
@[simp] theorem restartGoodRuns_linkReply (s : State) : (s.restartGoodRuns).linkReply = s.linkReply := rfl
@[simp] theorem restartGoodRuns_linkAddress (s : State) : (s.restartGoodRuns).linkAddress = s.linkAddress := rfl
@[simp] theorem restartGoodRuns_linkBaud (s : State) : (s.restartGoodRuns).linkBaud = s.linkBaud := rfl
@[simp] theorem restartGoodRuns_spAddress (s : State) : (s.restartGoodRuns).spAddress = s.spAddress := rfl
@[simp] theorem restartGoodRuns_spReply (s : State) : (s.restartGoodRuns).spReply = s.spReply := rfl
@[simp] theorem restartGoodRuns_spWrite (s : State) : (s.restartGoodRuns).spWrite = s.spWrite := rfl
@[simp] theorem restartGoodRuns_spReading (s : State) : (s.restartGoodRuns).spReading = s.spReading := rfl
@[simp] theorem restartGoodRuns_serviceMode (s : State) : (s.restartGoodRuns).serviceMode = s.serviceMode := rfl
@[simp] theorem restartGoodRuns_spAck (s : State) : (s.restartGoodRuns).spAck = s.spAck := rfl
@[simp] theorem restartGoodRuns_spOut (s : State) : (s.restartGoodRuns).spOut = s.spOut := rfl
@[simp] theorem restartGoodRuns_config (s : State) : (s.restartGoodRuns).config = s.config := rfl
@[simp] theorem restartGoodRuns_store (s : State) : (s.restartGoodRuns).store = s.store := rfl
@[simp] theorem restartGoodRuns_imageValid (s : State) : (s.restartGoodRuns).imageValid = s.imageValid := rfl
@[simp] theorem restartGoodRuns_resumeSet (s : State) : (s.restartGoodRuns).resumeSet = s.resumeSet := rfl
@[simp] theorem restartGoodRuns_image (s : State) : (s.restartGoodRuns).image = s.image := rfl
@[simp] theorem restartGoodRuns_checkGood (s : State) : (s.restartGoodRuns).checkGood = s.checkGood := rfl
@[simp] theorem restartGoodRuns_flags (s : State) : (s.restartGoodRuns).flags = s.flags := rfl
@[simp] theorem restartGoodRuns_lastRefusal (s : State) : (s.restartGoodRuns).lastRefusal = s.lastRefusal := rfl
@[simp] theorem restartGoodRuns_lastEviction (s : State) : (s.restartGoodRuns).lastEviction = s.lastEviction := rfl

/-! ## `State.resetWatchdog` -/

@[simp] theorem resetWatchdog_pending (s : State) : (s.resetWatchdog).pending = s.pending := rfl
@[simp] theorem resetWatchdog_ties (s : State) : (s.resetWatchdog).ties = s.ties := rfl
@[simp] theorem resetWatchdog_micros (s : State) : (s.resetWatchdog).micros = s.micros := rfl
@[simp] theorem resetWatchdog_powered (s : State) : (s.resetWatchdog).powered = s.powered := rfl
@[simp] theorem resetWatchdog_rstnLow (s : State) : (s.resetWatchdog).rstnLow = s.rstnLow := rfl
@[simp] theorem resetWatchdog_sa1 (s : State) : (s.resetWatchdog).sa1 = s.sa1 := rfl
@[simp] theorem resetWatchdog_sa0 (s : State) : (s.resetWatchdog).sa0 = s.sa0 := rfl
@[simp] theorem resetWatchdog_stage (s : State) : (s.resetWatchdog).stage = s.stage := rfl
@[simp] theorem resetWatchdog_resetCause (s : State) : (s.resetWatchdog).resetCause = s.resetCause := rfl
@[simp] theorem resetWatchdog_slots (s : State) : (s.resetWatchdog).slots = s.slots := rfl
@[simp] theorem resetWatchdog_plays (s : State) : (s.resetWatchdog).plays = s.plays := rfl
@[simp] theorem resetWatchdog_frozen (s : State) : (s.resetWatchdog).frozen = s.frozen := rfl
@[simp] theorem resetWatchdog_claims (s : State) : (s.resetWatchdog).claims = s.claims := rfl
@[simp] theorem resetWatchdog_channels (s : State) : (s.resetWatchdog).channels = s.channels := rfl
@[simp] theorem resetWatchdog_thermal (s : State) : (s.resetWatchdog).thermal = s.thermal := rfl
@[simp] theorem resetWatchdog_lines (s : State) : (s.resetWatchdog).lines = s.lines := rfl
@[simp] theorem resetWatchdog_patterns (s : State) : (s.resetWatchdog).patterns = s.patterns := rfl
@[simp] theorem resetWatchdog_watchdog (s : State) : (s.resetWatchdog).watchdog = if s.watchdogRuns then some s.config.watchdogMicros else none := rfl
@[simp] theorem resetWatchdog_fallbackOn (s : State) : (s.resetWatchdog).fallbackOn = s.fallbackOn := rfl
@[simp] theorem resetWatchdog_entryCount (s : State) : (s.resetWatchdog).entryCount = s.entryCount := rfl
@[simp] theorem resetWatchdog_receiver (s : State) : (s.resetWatchdog).receiver = s.receiver := rfl
@[simp] theorem resetWatchdog_linkReply (s : State) : (s.resetWatchdog).linkReply = s.linkReply := rfl
@[simp] theorem resetWatchdog_linkAddress (s : State) : (s.resetWatchdog).linkAddress = s.linkAddress := rfl
@[simp] theorem resetWatchdog_linkBaud (s : State) : (s.resetWatchdog).linkBaud = s.linkBaud := rfl
@[simp] theorem resetWatchdog_spAddress (s : State) : (s.resetWatchdog).spAddress = s.spAddress := rfl
@[simp] theorem resetWatchdog_spReply (s : State) : (s.resetWatchdog).spReply = s.spReply := rfl
@[simp] theorem resetWatchdog_spWrite (s : State) : (s.resetWatchdog).spWrite = s.spWrite := rfl
@[simp] theorem resetWatchdog_spReading (s : State) : (s.resetWatchdog).spReading = s.spReading := rfl
@[simp] theorem resetWatchdog_serviceMode (s : State) : (s.resetWatchdog).serviceMode = s.serviceMode := rfl
@[simp] theorem resetWatchdog_spAck (s : State) : (s.resetWatchdog).spAck = s.spAck := rfl
@[simp] theorem resetWatchdog_spOut (s : State) : (s.resetWatchdog).spOut = s.spOut := rfl
@[simp] theorem resetWatchdog_config (s : State) : (s.resetWatchdog).config = s.config := rfl
@[simp] theorem resetWatchdog_store (s : State) : (s.resetWatchdog).store = s.store := rfl
@[simp] theorem resetWatchdog_imageValid (s : State) : (s.resetWatchdog).imageValid = s.imageValid := rfl
@[simp] theorem resetWatchdog_resumeSet (s : State) : (s.resetWatchdog).resumeSet = s.resumeSet := rfl
@[simp] theorem resetWatchdog_image (s : State) : (s.resetWatchdog).image = s.image := rfl
@[simp] theorem resetWatchdog_checkGood (s : State) : (s.resetWatchdog).checkGood = s.checkGood := rfl
@[simp] theorem resetWatchdog_flags (s : State) : (s.resetWatchdog).flags = s.flags := rfl
@[simp] theorem resetWatchdog_lastRefusal (s : State) : (s.resetWatchdog).lastRefusal = s.lastRefusal := rfl
@[simp] theorem resetWatchdog_lastEviction (s : State) : (s.resetWatchdog).lastEviction = s.lastEviction := rfl

/-! ## `State.acceptLines` -/

@[simp] theorem acceptLines_pending (s : State) : (s.acceptLines).pending = s.pending := rfl
@[simp] theorem acceptLines_ties (s : State) : (s.acceptLines).ties = s.ties := rfl
@[simp] theorem acceptLines_micros (s : State) : (s.acceptLines).micros = s.micros := rfl
@[simp] theorem acceptLines_powered (s : State) : (s.acceptLines).powered = s.powered := rfl
@[simp] theorem acceptLines_rstnLow (s : State) : (s.acceptLines).rstnLow = s.rstnLow := rfl
@[simp] theorem acceptLines_sa1 (s : State) : (s.acceptLines).sa1 = s.sa1 := rfl
@[simp] theorem acceptLines_sa0 (s : State) : (s.acceptLines).sa0 = s.sa0 := rfl
@[simp] theorem acceptLines_stage (s : State) : (s.acceptLines).stage = s.stage := rfl
@[simp] theorem acceptLines_resetCause (s : State) : (s.acceptLines).resetCause = s.resetCause := rfl
@[simp] theorem acceptLines_slots (s : State) : (s.acceptLines).slots = s.slots := rfl
@[simp] theorem acceptLines_plays (s : State) : (s.acceptLines).plays = s.plays := rfl
@[simp] theorem acceptLines_frozen (s : State) : (s.acceptLines).frozen = s.frozen := rfl
@[simp] theorem acceptLines_claims (s : State) : (s.acceptLines).claims = s.claims := rfl
@[simp] theorem acceptLines_channels (s : State) : (s.acceptLines).channels = s.channels := rfl
@[simp] theorem acceptLines_thermal (s : State) : (s.acceptLines).thermal = s.thermal := rfl
@[simp] theorem acceptLines_lines (s : State) : (s.acceptLines).lines = mapBank1 (fun l x => x.rebase (s.lineItems l).enabled) s.lines := rfl
@[simp] theorem acceptLines_patterns (s : State) : (s.acceptLines).patterns = s.patterns := rfl
@[simp] theorem acceptLines_watchdog (s : State) : (s.acceptLines).watchdog = s.watchdog := rfl
@[simp] theorem acceptLines_fallbackOn (s : State) : (s.acceptLines).fallbackOn = s.fallbackOn := rfl
@[simp] theorem acceptLines_entryCount (s : State) : (s.acceptLines).entryCount = s.entryCount := rfl
@[simp] theorem acceptLines_receiver (s : State) : (s.acceptLines).receiver = s.receiver := rfl
@[simp] theorem acceptLines_linkReply (s : State) : (s.acceptLines).linkReply = s.linkReply := rfl
@[simp] theorem acceptLines_linkAddress (s : State) : (s.acceptLines).linkAddress = s.linkAddress := rfl
@[simp] theorem acceptLines_linkBaud (s : State) : (s.acceptLines).linkBaud = s.linkBaud := rfl
@[simp] theorem acceptLines_spAddress (s : State) : (s.acceptLines).spAddress = s.spAddress := rfl
@[simp] theorem acceptLines_spReply (s : State) : (s.acceptLines).spReply = s.spReply := rfl
@[simp] theorem acceptLines_spWrite (s : State) : (s.acceptLines).spWrite = s.spWrite := rfl
@[simp] theorem acceptLines_spReading (s : State) : (s.acceptLines).spReading = s.spReading := rfl
@[simp] theorem acceptLines_serviceMode (s : State) : (s.acceptLines).serviceMode = s.serviceMode := rfl
@[simp] theorem acceptLines_spAck (s : State) : (s.acceptLines).spAck = s.spAck := rfl
@[simp] theorem acceptLines_spOut (s : State) : (s.acceptLines).spOut = s.spOut := rfl
@[simp] theorem acceptLines_config (s : State) : (s.acceptLines).config = s.config := rfl
@[simp] theorem acceptLines_store (s : State) : (s.acceptLines).store = s.store := rfl
@[simp] theorem acceptLines_imageValid (s : State) : (s.acceptLines).imageValid = s.imageValid := rfl
@[simp] theorem acceptLines_resumeSet (s : State) : (s.acceptLines).resumeSet = s.resumeSet := rfl
@[simp] theorem acceptLines_image (s : State) : (s.acceptLines).image = s.image := rfl
@[simp] theorem acceptLines_checkGood (s : State) : (s.acceptLines).checkGood = s.checkGood := rfl
@[simp] theorem acceptLines_flags (s : State) : (s.acceptLines).flags = s.flags := rfl
@[simp] theorem acceptLines_lastRefusal (s : State) : (s.acceptLines).lastRefusal = s.lastRefusal := rfl
@[simp] theorem acceptLines_lastEviction (s : State) : (s.acceptLines).lastEviction = s.lastEviction := rfl

/-! ## `State.enterMode` -/

@[simp] theorem enterMode_pending (s : State) (mode : ServiceMode) : (s.enterMode mode).pending = s.pending := rfl
@[simp] theorem enterMode_ties (s : State) (mode : ServiceMode) : (s.enterMode mode).ties = s.ties := rfl
@[simp] theorem enterMode_micros (s : State) (mode : ServiceMode) : (s.enterMode mode).micros = s.micros := rfl
@[simp] theorem enterMode_powered (s : State) (mode : ServiceMode) : (s.enterMode mode).powered = s.powered := rfl
@[simp] theorem enterMode_rstnLow (s : State) (mode : ServiceMode) : (s.enterMode mode).rstnLow = s.rstnLow := rfl
@[simp] theorem enterMode_sa1 (s : State) (mode : ServiceMode) : (s.enterMode mode).sa1 = s.sa1 := rfl
@[simp] theorem enterMode_sa0 (s : State) (mode : ServiceMode) : (s.enterMode mode).sa0 = s.sa0 := rfl
@[simp] theorem enterMode_stage (s : State) (mode : ServiceMode) : (s.enterMode mode).stage = s.stage := rfl
@[simp] theorem enterMode_resetCause (s : State) (mode : ServiceMode) : (s.enterMode mode).resetCause = s.resetCause := rfl
@[simp] theorem enterMode_slots (s : State) (mode : ServiceMode) : (s.enterMode mode).slots = s.slots := rfl
@[simp] theorem enterMode_plays (s : State) (mode : ServiceMode) : (s.enterMode mode).plays = s.plays := rfl
@[simp] theorem enterMode_frozen (s : State) (mode : ServiceMode) : (s.enterMode mode).frozen = s.frozen := rfl
@[simp] theorem enterMode_claims (s : State) (mode : ServiceMode) : (s.enterMode mode).claims = s.claims := rfl
@[simp] theorem enterMode_channels (s : State) (mode : ServiceMode) : (s.enterMode mode).channels = s.channels := rfl
@[simp] theorem enterMode_thermal (s : State) (mode : ServiceMode) : (s.enterMode mode).thermal = s.thermal := rfl
@[simp] theorem enterMode_lines (s : State) (mode : ServiceMode) : (s.enterMode mode).lines = s.lines := rfl
@[simp] theorem enterMode_patterns (s : State) (mode : ServiceMode) : (s.enterMode mode).patterns = s.patterns := rfl
@[simp] theorem enterMode_watchdog (s : State) (mode : ServiceMode) : (s.enterMode mode).watchdog = s.watchdog := rfl
@[simp] theorem enterMode_fallbackOn (s : State) (mode : ServiceMode) : (s.enterMode mode).fallbackOn = s.fallbackOn := rfl
@[simp] theorem enterMode_entryCount (s : State) (mode : ServiceMode) : (s.enterMode mode).entryCount = s.entryCount := rfl
@[simp] theorem enterMode_receiver (s : State) (mode : ServiceMode) : (s.enterMode mode).receiver = s.receiver := rfl
@[simp] theorem enterMode_linkReply (s : State) (mode : ServiceMode) : (s.enterMode mode).linkReply = s.linkReply := rfl
@[simp] theorem enterMode_linkAddress (s : State) (mode : ServiceMode) : (s.enterMode mode).linkAddress = s.linkAddress := rfl
@[simp] theorem enterMode_linkBaud (s : State) (mode : ServiceMode) : (s.enterMode mode).linkBaud = s.linkBaud := rfl
@[simp] theorem enterMode_spAddress (s : State) (mode : ServiceMode) : (s.enterMode mode).spAddress = s.spAddress := rfl
@[simp] theorem enterMode_spReply (s : State) (mode : ServiceMode) : (s.enterMode mode).spReply = if mode = .off then s.spReply.discardReady else s.spReply := rfl
@[simp] theorem enterMode_spWrite (s : State) (mode : ServiceMode) : (s.enterMode mode).spWrite = s.spWrite := rfl
@[simp] theorem enterMode_spReading (s : State) (mode : ServiceMode) : (s.enterMode mode).spReading = if mode = .off then s.spReply.cutRead s.spReading else s.spReading := rfl
@[simp] theorem enterMode_serviceMode (s : State) (mode : ServiceMode) : (s.enterMode mode).serviceMode = .plain mode := rfl
@[simp] theorem enterMode_spAck (s : State) (mode : ServiceMode) : (s.enterMode mode).spAck = s.spAck := rfl
@[simp] theorem enterMode_spOut (s : State) (mode : ServiceMode) : (s.enterMode mode).spOut = s.spOut := rfl
@[simp] theorem enterMode_config (s : State) (mode : ServiceMode) : (s.enterMode mode).config = s.config := rfl
@[simp] theorem enterMode_store (s : State) (mode : ServiceMode) : (s.enterMode mode).store = s.store := rfl
@[simp] theorem enterMode_imageValid (s : State) (mode : ServiceMode) : (s.enterMode mode).imageValid = s.imageValid := rfl
@[simp] theorem enterMode_resumeSet (s : State) (mode : ServiceMode) : (s.enterMode mode).resumeSet = s.resumeSet := rfl
@[simp] theorem enterMode_image (s : State) (mode : ServiceMode) : (s.enterMode mode).image = s.image := rfl
@[simp] theorem enterMode_checkGood (s : State) (mode : ServiceMode) : (s.enterMode mode).checkGood = s.checkGood := rfl
@[simp] theorem enterMode_flags (s : State) (mode : ServiceMode) : (s.enterMode mode).flags = s.flags := rfl
@[simp] theorem enterMode_lastRefusal (s : State) (mode : ServiceMode) : (s.enterMode mode).lastRefusal = s.lastRefusal := rfl
@[simp] theorem enterMode_lastEviction (s : State) (mode : ServiceMode) : (s.enterMode mode).lastEviction = s.lastEviction := rfl

end Sys2Proof.Machine
end

