-- ==== Sys2Proof/Laws/Ops.lean ====
section
/-! SUPPORT. What the named reads give after the named writes, and what the recomputation of the output levels does. -/

namespace Sys2Proof.Machine

/-! ## Reads after writes -/

theorem slot_setSlot_same (s : State) (n : Nat) (x : Slot) (h : 1 ≤ n ∧ n ≤ 64) : (s.setSlot n x).slot n = x := by
  simp [State.slot, at1_put1_same _ _ _ h]

theorem slot_setSlot_other (s : State) (n m : Nat) (x : Slot) (h : m ≠ n) : (s.setSlot n x).slot m = s.slot m := by
  simp [State.slot, at1_put1_other _ _ _ _ h]

theorem play_setPlay_same (s : State) (id : Nat) (x : Option Play) (h : 1 ≤ id ∧ id ≤ 24) :
    (s.setPlay id x).play id = x := by
  simp [State.play, at1_put1_same _ _ _ h]

theorem play_setPlay_other (s : State) (id j : Nat) (x : Option Play) (h : j ≠ id) :
    (s.setPlay id x).play j = s.play j := by
  simp [State.play, at1_put1_other _ _ _ _ h]

theorem channel_setChannel_same (s : State) (c : Nat) (x : Channel) (h : 1 ≤ c ∧ c ≤ 16) :
    (s.setChannel c x).channel c = some x := by
  simp [State.channel, at1_put1_same _ _ _ h]

theorem channel_setChannel_other (s : State) (c d : Nat) (x : Channel) (h : d ≠ c) :
    (s.setChannel c x).channel d = s.channel d := by
  simp [State.channel, at1_put1_other _ _ _ _ h]

theorem line_setLine_same (s : State) (l : Nat) (x : Line) (h : 1 ≤ l ∧ l ≤ 8) : (s.setLine l x).line l = some x := by
  simp [State.line, at1_put1_same _ _ _ h]

theorem line_setLine_other (s : State) (l m : Nat) (x : Line) (h : m ≠ l) : (s.setLine l x).line m = s.line m := by
  simp [State.line, at1_put1_other _ _ _ _ h]

theorem pattern_setPattern_same (s : State) (k : Nat) (x : Pattern) (h : 1 ≤ k ∧ k ≤ 16) :
    (s.setPattern k x).pattern k = some x := by
  simp [State.pattern, at1_put1_same _ _ _ h]

theorem pattern_setPattern_other (s : State) (k m : Nat) (x : Pattern) (h : m ≠ k) :
    (s.setPattern k x).pattern m = s.pattern m := by
  simp [State.pattern, at1_put1_other _ _ _ _ h]

/-- A record that holds a play has an id 1..24. -/
theorem id_of_play (s : State) (id : Nat) (p : Play) (h : s.play id = some p) : 1 ≤ id ∧ id ≤ 24 := by
  rw [← at1_isSome_iff s.plays id]
  unfold State.play at h
  cases hv : at1 s.plays id with
  | none => simp [hv] at h
  | some o => rfl

theorem mem_playIds (id : Nat) : id ∈ playIds ↔ 1 ≤ id ∧ id ≤ 24 := by
  simp [playIds, List.mem_range'_1]
  omega

theorem mem_channelIds (c : Nat) : c ∈ channelIds ↔ 1 ≤ c ∧ c ≤ 16 := by
  simp [channelIds, List.mem_range'_1]
  omega

/-! ## Output levels -/

/-- The recomputation changes the channels alone. -/
theorem drive_frame (s : State) : s.drive = { s with channels := s.drive.channels } := rfl

theorem channel_drive (s : State) (c : Nat) :
    s.drive.channel c = (s.channel c).map fun x => x.drive (s.outputLevel c x.state) s.config.goodRunTime := by
  simp [State.channel]

@[simp] theorem state_drive (x : Channel) (l : Nat) (g : Byte) : (x.drive l g).state = x.state := rfl

@[simp] theorem level_drive (x : Channel) (l : Nat) (g : Byte) : (x.drive l g).level = l := rfl

@[simp] theorem retryCount_drive (x : Channel) (l : Nat) (g : Byte) : (x.drive l g).retryCount = x.retryCount := rfl

@[simp] theorem retryTimer_drive (x : Channel) (l : Nat) (g : Byte) : (x.drive l g).retryTimer = x.retryTimer := rfl

@[simp] theorem openLoadFlag_drive (x : Channel) (l : Nat) (g : Byte) :
    (x.drive l g).openLoadFlag = x.openLoadFlag := rfl

/-- The level a channel is given reads nothing that the recomputation writes. -/
@[simp] theorem outputLevel_drive (s : State) (c : Nat) (st : SupervisorState) :
    s.drive.outputLevel c st = s.outputLevel c st := rfl

/-- After a recomputation every channel follows its owner, whatever stood before. -/
theorem levels_follow_after_drive (s : State) : LevelsFollowTheOwners s.drive := by
  intro c _ x hx
  rw [Option.mem_def, channel_drive] at hx
  cases h : s.channel c with
  | none => simp [h] at hx
  | some y =>
    simp only [h, Option.map_some, Option.some.injEq] at hx
    subst hx
    simp

/-- Output levels read the run state, the thermal state, the derate, the claims, the plays and the slots, and nothing else. -/
theorem outputLevel_congr (s t : State) (hr : t.stage = s.stage) (ht : t.thermal.state = s.thermal.state)
    (hd : t.config.derate = s.config.derate) (hc : t.claims = s.claims) (hp : t.plays = s.plays) (hs : t.slots = s.slots)
    (c : Nat) (st : SupervisorState) : t.outputLevel c st = s.outputLevel c st := by
  simp only [State.outputLevel, State.gated, State.running, State.owner, State.claimList, State.levelOf, State.play,
    State.recordOf, State.slot, hr, ht, hd, hc, hp, hs]
  rfl

end Sys2Proof.Machine
end

