-- ==== Sys2Proof/Laws/PlayEngine.lean ====
section
/-! SUPPORT. The Play Engine and the Claim Arbiter write the slots, the play records, the claim lists and the Event Unit, and
nothing else; each of their operations keeps that frame. -/

namespace Sys2Proof.Machine

/-- `t` differs from `s` at most in what the Play Engine and the Claim Arbiter write. -/
def PlayFrame (s t : State) : Prop :=
  t = { s with
    slots := t.slots, plays := t.plays, claims := t.claims, flags := t.flags, lastRefusal := t.lastRefusal,
    lastEviction := t.lastEviction }

namespace PlayFrame

theorem refl (s : State) : PlayFrame s s := rfl

theorem trans {s t u : State} (h₁ : PlayFrame s t) (h₂ : PlayFrame t u) : PlayFrame s u := by
  unfold PlayFrame at *
  rw [h₂, h₁]

variable {s t : State} (h : PlayFrame s t)
include h

theorem pending : t.pending = s.pending := by rw [h]
theorem ties : t.ties = s.ties := by rw [h]
theorem stage : t.stage = s.stage := by rw [h]
theorem running : t.running = s.running := by unfold State.running; rw [h.stage]
theorem frozen : t.frozen = s.frozen := by rw [h]
theorem channels : t.channels = s.channels := by rw [h]
theorem thermal : t.thermal = s.thermal := by rw [h]
theorem lines : t.lines = s.lines := by rw [h]
theorem patterns : t.patterns = s.patterns := by rw [h]
theorem watchdog : t.watchdog = s.watchdog := by rw [h]
theorem fallbackOn : t.fallbackOn = s.fallbackOn := by rw [h]
theorem entryCount : t.entryCount = s.entryCount := by rw [h]
theorem receiver : t.receiver = s.receiver := by rw [h]
theorem linkReply : t.linkReply = s.linkReply := by rw [h]
theorem spReply : t.spReply = s.spReply := by rw [h]
theorem serviceMode : t.serviceMode = s.serviceMode := by rw [h]
theorem config : t.config = s.config := by rw [h]
theorem store : t.store = s.store := by rw [h]
theorem image : t.image = s.image := by rw [h]
theorem checkGood : t.checkGood = s.checkGood := by rw [h]
theorem imageValid : t.imageValid = s.imageValid := by rw [h]
theorem resumeSet : t.resumeSet = s.resumeSet := by rw [h]

end PlayFrame

theorem playFrame_setSlot (s : State) (n : Nat) (x : Slot) : PlayFrame s (s.setSlot n x) := rfl

theorem playFrame_setPlay (s : State) (id : Nat) (x : Option Play) : PlayFrame s (s.setPlay id x) := rfl

theorem playFrame_raise (s : State) (e : EventFlag) : PlayFrame s (s.raise e) := rfl

theorem playFrame_raiseRefused (s : State) (r : RefusalRecord) : PlayFrame s (s.raiseRefused r) := rfl

theorem playFrame_raiseEviction (s : State) (r : EvictionRecord) : PlayFrame s (s.raiseEviction r) := rfl

theorem playFrame_removeClaims (s : State) (id : Nat) : PlayFrame s (s.removeClaims id) := rfl

theorem playFrame_renameClaims (s : State) (a b : Nat) : PlayFrame s (s.renameClaims a b) := rfl

theorem playFrame_arrive (s : State) (id : Nat) : PlayFrame s (s.arrive id) := by
  unfold State.arrive
  split <;> rfl

theorem playFrame_restart (s : State) (id : Nat) (source : Source) (priority : Nat) :
    PlayFrame s (s.restart id source priority) := by
  unfold State.restart
  split
  · rfl
  · exact (playFrame_setPlay _ _ _).trans (playFrame_arrive _ _)

theorem playFrame_freeIfRetiring (s : State) (cue : Nat) : PlayFrame s (s.freeIfRetiring cue) := by
  unfold State.freeIfRetiring
  split <;> rfl

theorem playFrame_endPlay (s : State) (id : Nat) : PlayFrame s (s.endPlay id) := by
  unfold State.endPlay
  split
  · rfl
  · exact ((playFrame_setPlay _ _ _).trans (playFrame_removeClaims _ _)).trans (playFrame_freeIfRetiring _ _)

theorem playFrame_endOrRestart (s : State) (id : Nat) : PlayFrame s (s.endOrRestart id) := by
  unfold State.endOrRestart
  split
  · rfl
  · split
    · exact playFrame_restart _ _ _ _
    · exact playFrame_endPlay _ _

theorem playFrame_releasePlay (s : State) (id : Nat) : PlayFrame s (s.releasePlay id) := by
  unfold State.releasePlay
  repeat' split
  all_goals first
    | rfl
    | exact playFrame_endOrRestart _ _

theorem playFrame_clearPending (s : State) (id : Nat) : PlayFrame s (s.clearPending id) := by
  unfold State.clearPending
  split <;> rfl

theorem playFrame_requestRelease (s : State) (id : Nat) : PlayFrame s (s.requestRelease id) :=
  (playFrame_clearPending _ _).trans (playFrame_releasePlay _ _)

theorem playFrame_evict (s : State) (evicting id : Nat) : PlayFrame s (s.evict evicting id) := by
  unfold State.evict
  split
  · rfl
  · exact (playFrame_endPlay _ _).trans (playFrame_raiseEviction _ _)

theorem playFrame_foldl {α : Type} (f : State → α → State) (hf : ∀ s a, PlayFrame s (f s a)) (l : List α) (s : State) :
    PlayFrame s (l.foldl f s) := by
  induction l generalizing s with
  | nil => rfl
  | cons a l ih => exact (hf s a).trans (ih (f s a))

theorem playFrame_evictAll (s : State) (evicting : Nat) (marks : List Nat) : PlayFrame s (s.evictAll evicting marks) :=
  playFrame_foldl _ (fun t id => playFrame_evict t evicting id) marks s

theorem playFrame_fillRecord (s : State) (id cue : Nat) (source : Source) (priority : Nat) :
    PlayFrame s (s.fillRecord id cue source priority) :=
  (playFrame_setPlay _ _ _).trans (playFrame_arrive _ _)

theorem playFrame_admit (s : State) (cue : Nat) (source : Source) (priority : Nat) :
    PlayFrame s (s.admitPlay cue source priority).1 := by
  unfold State.admitPlay
  split
  · rfl
  · split
    · rfl
    · dsimp only
      split
      · rfl
      · exact (playFrame_evictAll _ _ _).trans (playFrame_fillRecord _ _ _ _ _)

theorem playFrame_retrigger (s : State) (id : Nat) (p : Play) (source : Source) (priority : Nat) :
    PlayFrame s (s.retrigger id p source priority).1 := by
  unfold State.retrigger
  split
  · exact playFrame_restart _ _ _ _
  · rfl
  · rfl

theorem playFrame_triggerFrom6 (s : State) (cue : Nat) (source : Source) (override : Option Nat) :
    PlayFrame s (s.triggerFrom6 cue source override).1 := by
  unfold State.triggerFrom6
  dsimp only
  repeat' split
  all_goals first
    | exact playFrame_admit _ _ _ _
    | exact playFrame_retrigger _ _ _ _ _
    | rfl

theorem playFrame_triggerFrom4 (s : State) (cue : Nat) (source : Source) (override : Option Nat) :
    PlayFrame s (s.triggerFrom4 cue source override).1 := by
  unfold State.triggerFrom4
  split
  · rfl
  · rfl
  · exact playFrame_triggerFrom6 _ _ _ _

theorem playFrame_reportOutcome (s : State) (cue : Nat) (source : Source) (o : Outcome) :
    PlayFrame s (s.reportOutcome cue source o) := by
  unfold State.reportOutcome
  split <;> rfl

theorem playFrame_triggerReported (s : State) (cue : Nat) (source : Source) :
    PlayFrame s (s.triggerReported cue source) :=
  (playFrame_triggerFrom4 _ _ _ _).trans (playFrame_reportOutcome _ _ _ _)

theorem playFrame_failChain (s : State) (id : Nat) : PlayFrame s (s.failChain id) :=
  (playFrame_endPlay _ _).trans (playFrame_raise _ _)

theorem playFrame_handover (s : State) (id : Nat) (p : Play) (t : Nat) : PlayFrame s (s.handover id p t) := by
  unfold State.handover
  dsimp only
  split
  · exact playFrame_failChain _ _
  · exact ((playFrame_evictAll _ _ _).trans (playFrame_removeClaims _ _)).trans (playFrame_fillRecord _ _ _ _ _)

theorem playFrame_chainToBusy (s : State) (id t : Nat) : PlayFrame s (s.chainToBusy id t) :=
  ((playFrame_triggerFrom6 _ _ _ _).trans (playFrame_reportOutcome _ _ _ _)).trans (playFrame_endPlay _ _)

theorem playFrame_chain (s : State) (id : Nat) (p : Play) (t : Nat) : PlayFrame s (s.chain id p t) := by
  unfold State.chain
  repeat' split
  all_goals first
    | exact playFrame_failChain _ _
    | exact playFrame_restart _ _ _ _
    | exact playFrame_handover _ _ _ _
    | exact (playFrame_endPlay _ _).trans (playFrame_handover _ _ _ _)
    | exact playFrame_chainToBusy _ _ _

theorem playFrame_repeatPlay (s : State) (id : Nat) (p : Play) : PlayFrame s (s.repeatPlay id p) := by
  unfold State.repeatPlay
  dsimp only
  split
  · rfl
  · exact playFrame_releasePlay _ _
  · rfl

theorem playFrame_endAction (s : State) (id : Nat) (p : Play) : PlayFrame s (s.endAction id p) := by
  unfold State.endAction
  repeat' split
  all_goals first
    | exact playFrame_releasePlay _ _
    | exact playFrame_setPlay _ _ _
    | exact playFrame_repeatPlay _ _ _
    | exact playFrame_chain _ _ _ _

theorem playFrame_endRamp (s : State) (id : Nat) (p : Play) : PlayFrame s (s.endRamp id p) := by
  unfold State.endRamp
  dsimp only
  split
  · exact playFrame_endAction _ _ _
  · rfl

theorem playFrame_rampStep (s : State) (id : Nat) (p : Play) : PlayFrame s (s.rampStep id p) := by
  unfold State.rampStep
  dsimp only
  split
  · exact (playFrame_setPlay _ _ _).trans (playFrame_endRamp _ _ _)
  · rfl

theorem playFrame_fadeStep (s : State) (id : Nat) (p : Play) (origins : List OriginLevel) (done : Nat) :
    PlayFrame s (s.fadeStep id p origins done) := by
  unfold State.fadeStep
  dsimp only
  split
  · exact playFrame_endOrRestart _ _
  · rfl

theorem playFrame_patternRelease (s : State) (cue : Nat) : PlayFrame s (s.patternRelease cue) := by
  unfold State.patternRelease
  repeat' split
  all_goals first
    | rfl
    | exact playFrame_requestRelease _ _

theorem playFrame_patternAction (s : State) (k : Nat) (r : PatternRecord) : PlayFrame s (s.patternAction k r) := by
  unfold State.patternAction
  repeat' split
  all_goals first
    | exact playFrame_triggerReported _ _ _
    | exact playFrame_patternRelease _ _

/-! ## What an end and an arrival do -/

/-- After a play's end its record holds none, and no list names it. -/
theorem play_endPlay (s : State) (id : Nat) : (s.endPlay id).play id = none := by
  unfold State.endPlay
  split
  · assumption
  · rename_i p hp
    have hid := id_of_play s id p hp
    have hplay : ((s.setPlay id none).removeClaims id).play id = none := play_setPlay_same s id none hid
    unfold State.freeIfRetiring
    split
    · exact hplay
    · exact hplay

/-- A claim is placed directly behind the last claim that is higher, and so ahead of every other (04 R81). -/
theorem place_spec (higher : Nat → Bool) (id : Nat) : ∀ claims : List Nat, ∃ front back, claims = front ++ back ∧
    place higher id claims = front ++ id :: back ∧ (∀ last, front.getLast? = some last → higher last = true) ∧
    ∀ j ∈ back, higher j = false
  | [] => ⟨[], [], rfl, rfl, by simp, by simp⟩
  | x :: xs => by
    obtain ⟨f, b, h1, h2, h3, h4⟩ := place_spec higher id xs
    by_cases h : (x :: xs).any higher
    · refine ⟨x :: f, b, by simp [h1], by simp only [place, h, if_true, h2, List.cons_append], ?_, h4⟩
      intro last hl
      cases f with
      | nil =>
        simp at hl; subst hl
        simp only [List.nil_append] at h1; subst h1
        simp only [List.any_cons, Bool.or_eq_true, List.any_eq_true] at h
        rcases h with h | ⟨y, hy, h⟩
        · exact h
        · rw [h4 y hy] at h; exact absurd h (by simp)
      | cons a l => rw [List.getLast?_cons_cons] at hl; exact h3 _ hl
    · refine ⟨[], x :: xs, rfl, by simp only [place, h]; rfl, by simp, ?_⟩
      intro j hj
      simp only [List.any_eq_true, not_exists, not_and, Bool.not_eq_true] at h
      exact h j hj

theorem mem_place (higher : Nat → Bool) (id x : Nat) (l : List Nat) : x ∈ place higher id l ↔ x = id ∨ x ∈ l := by
  induction l with
  | nil => simp [place]
  | cons a l ih =>
    unfold place
    split
    · simp only [List.mem_cons, ih]
      constructor
      · rintro (h | h | h) <;> simp [h]
      · rintro (h | h | h) <;> simp [h]
    · simp

theorem length_place (higher : Nat → Bool) (id : Nat) (l : List Nat) : (place higher id l).length = l.length + 1 := by
  induction l with
  | nil => rfl
  | cons a l ih =>
    unfold place
    split
    · simp [ih]
    · simp

/-- A step moves at most one place, and never past the stop step (02 R39). -/
theorem stepToward_self (a : Byte) : stepToward a a = a := by simp [stepToward]

end Sys2Proof.Machine
end

