-- ==== Sys2Proof/Laws/Requests.lean ====
section
/-! SUPPORT. What a request does, by whether and how it is taken, and what its block's answer becomes. -/

namespace Sys2Proof.Machine

/-- A request that is not taken leaves the state in which it arrived. -/
theorem request_not_taken (s t : State) (k : RequestClass) (via : Via) (block : Origin → State → Answer)
    (h : s.receive via = (t, none)) : s.request k via block = t := by
  simp [State.request, h]

/-- A reading request in a group or broadcast frame is ignored (08 R166). -/
theorem request_ignored (s t : State) (via : Via) (block : Origin → State → Answer)
    (h : s.receive via = (t, some .group)) : s.request .reading via block = t := by
  simp [State.request, h]

/-- A request that a port check refuses is answered with that status, and its block does not see it (08 R164). -/
theorem request_refused (s t : State) (k : RequestClass) (via : Via) (block : Origin → State → Answer) (o : Origin)
    (st : Status) (h : s.receive via = (t, some o)) (hg : ¬(o = .group ∧ k = .reading)) (hc : t.portCheck k o = some st) :
    s.request k via block = (t.refuse st).send o := by
  simp [State.request, h, hg, State.answer, hc]

/-- A request that is taken is answered by its block. -/
theorem request_taken (s t : State) (k : RequestClass) (via : Via) (block : Origin → State → Answer) (o : Origin)
    (h : Taken s k via t o) : s.request k via block = (block o t).send o := by
  simp [State.request, h.1, h.2.2, State.answer, h.2.1]

/-- A property that the arrival of a request, its block and the sending of its answer all keep is kept by the request. -/
theorem request_keeps (P : State → Prop) (s : State) (k : RequestClass) (via : Via) (block : Origin → State → Answer)
    (hr : P (s.receive via).1) (hb : ∀ o t, P t → t.portCheck k o = none → P (block o t).state)
    (hl : ∀ t r, P t → P { t with linkReply := r }) (hp : ∀ t r, P t → P { t with spReply := r }) :
    P (s.request k via block) := by
  unfold State.request
  split
  · next t h => rw [h] at hr; exact hr
  · next t o h =>
    rw [h] at hr
    split
    · exact hr
    · have ha : P (t.answer k o block).state := by
        unfold State.answer
        split
        · exact hr
        · next hc => exact hb o t hr hc
      cases o
      · exact hl _ _ ha
      · exact ha
      · exact hp _ _ ha

theorem readThen_some {α : Type} (x : α) (act : α → State → Answer) (s : State) : readThen (some x) act s = act x s := rfl

theorem readThen_none {α : Type} (act : α → State → Answer) (s : State) :
    readThen none act s = s.refuse .badArg := rfl

/-- An edit while the store is SAVING is refused with BUSY (01 R26, 10 R179). -/
theorem editThen_saving {α : Type} (operands : Option α) (act : α → State → Answer) (s : State) (h : s.store ≠ .idle) :
    editThen operands act s = s.refuse .busy := by
  simp [editThen, h]

theorem editThen_idle {α : Type} (operands : Option α) (act : α → State → Answer) (s : State) (h : s.store = .idle) :
    editThen operands act s = readThen operands act s := by
  simp [editThen, h]

/-! ## Where a request comes from -/

/-- While no reply waits or is sent, a whole frame is sorted by its address, and one addressed to the unit refreshes the
watchdog first (08 R163, 07 R148). -/
theorem receiveFrame_idle (s : State) (address : Byte) (hs : s.stage ≠ .held) (hl : s.linkReply = .idle) :
    s.receiveFrame address =
      match State.sortFrame s address with
      | none => ({ s with receiver := .hunting }, none)
      | some o => (State.startWatchdog { s with receiver := .hunting }, some o) := by
  have hh : s.lineHeard = true := by simp [State.lineHeard, hl, hs]
  simp only [State.receiveFrame, hh, State.startBit, hl]
  rfl

/-- A refresh changes the watchdog timer alone (07 R148). -/
theorem startWatchdog_frame (s : State) : s.startWatchdog = { s with watchdog := s.startWatchdog.watchdog } := by
  unfold State.startWatchdog
  split <;> rfl

/-- An acknowledged write is taken at its end while the port listens; its request then changes nothing before its block. -/
theorem endWrite_acknowledged (s : State) (hw : s.spWrite = .acknowledged) (h : s.spListens = true) :
    s.endWrite = ({ s with spWrite := .none }, some .servicePort) := by
  simp [State.endWrite, State.takeWrite, hw, h]

/-- An acknowledged write that ends in SILENT, in OFF or in reset is not taken and leaves no reply (08 R170). -/
theorem endWrite_deaf (s : State) (hw : s.spWrite = .acknowledged) (h : s.spListens = false) :
    s.endWrite = ({ s with spWrite := .none, spReply := .none }, none) := by
  simp [State.endWrite, State.takeWrite, hw, h]

/-- A write whose address was not acknowledged is not taken (08 R167). -/
theorem endWrite_refused (s : State) (hw : s.spWrite = .refused) : s.endWrite = ({ s with spWrite := .none }, none) := by
  simp [State.endWrite, hw]

/-- A whole write is acknowledged and taken exactly while the port listens (08 R167, R169; log 10). -/
theorem endWrite_whole (s : State) (hw : s.spWrite = .none) (h : s.spListens = true) :
    s.endWrite = ({ s with spAck := true, spReply := .preparing, spWrite := .none, spReading := none }, some .servicePort) := by
  have hl : State.spListens { s with spAck := true, spReply := .preparing, spWrite := .acknowledged, spReading := none } = true := h
  simp [State.endWrite, State.takeWrite, State.startWrite, State.startCondition, State.acknowledges, hw, h, hl]

theorem endWrite_whole_deaf (s : State) (hw : s.spWrite = .none) (h : s.spListens = false) :
    s.endWrite = ({ s with spAck := false, spWrite := .none, spReading := none }, none) := by
  simp [State.endWrite, State.startWrite, State.startCondition, State.acknowledges, hw, h]

/-- The end of a write touches the Service Port's own registers alone. -/
theorem endWrite_frame (s : State) :
    s.endWrite.1 = { s with
      spAck := s.endWrite.1.spAck, spReply := s.endWrite.1.spReply, spWrite := .none, spReading := s.endWrite.1.spReading } := by
  cases h : s.spListens <;> cases hw : s.spWrite
  · rw [endWrite_whole_deaf s hw h]
  · rw [endWrite_deaf s hw h]
  · rw [endWrite_refused s hw]
  · rw [endWrite_whole s hw h]
  · rw [endWrite_acknowledged s hw h]
  · rw [endWrite_refused s hw]

/-- The answer touches the two reply registers alone. -/
theorem send_frame (a : Answer) (o : Origin) :
    a.send o = { a.state with linkReply := (a.send o).linkReply, spReply := (a.send o).spReply } := by
  cases o <;> rfl

end Sys2Proof.Machine
end

