-- ==== Sys2Proof/Laws/Timers.lean ====
section
/-! SUPPORT. When a timer has run out, and what an idle step does to each of them. -/

namespace Sys2Proof.Machine

/-! ## Which timers have run out -/

theorem expiring_iff (s : State) (id : Nat) (p : Play) :
    s.expiring id = some p ↔ s.frozen = false ∧ s.play id = some p ∧ p.timer = 0 := by
  cases hf : s.frozen <;> simp [State.expiring, hf, Option.filter_eq_some_iff]

/-- No play timer runs out while the Play Engine is frozen, nor one with time left (02 R36, R59). -/
theorem expiring_none (s : State) (id : Nat) (p : Play) (hp : s.play id = some p) (h : s.frozen = true ∨ p.timer ≠ 0) :
    s.expiring id = none := by
  rcases h with h | h <;> simp [State.expiring, h, hp, Option.filter]

theorem retryDue_iff (x : Channel) : x.retryDue = true ↔ x.state = .tripped ∧ x.retryTimer = some 0 := by
  simp [Channel.retryDue]

theorem goodRunDue_iff (x : Channel) (i : Items) :
    x.goodRunDue i = true ↔ ∃ run, x.goodRun = some run ∧ i.goodRunTime.toNat * 1000000 ≤ run := by
  have h : i.goodRunMicros = i.goodRunTime.toNat * 1000000 := by
    simp [Items.goodRunMicros, inMicros, Config.msMicros, Nat.mul_assoc]
  simp [Channel.goodRunDue, Option.any_eq_true, h]

/-! ## What 50 µs do -/

@[simp] theorem countDown_none : countDown none = none := rfl

@[simp] theorem countDown_some (left : Nat) : countDown (some left) = some (left - 50) := rfl

@[simp] theorem countUp_none : countUp none = none := rfl

@[simp] theorem countUp_some (run : Nat) : countUp (some run) = some (run + 50) := rfl

/-- No timer starts or stops by time alone. -/
theorem countDown_isSome (timer : Option Nat) : (countDown timer).isSome = timer.isSome := by cases timer <;> rfl

theorem countUp_isSome (measure : Option Nat) : (countUp measure).isSome = measure.isSome := by cases measure <;> rfl

/-- The Play Engine's timebase touches the play records and its own counter alone (02 R37). -/
theorem tickPlays_frame (s : State) : s.tickPlays = { s with micros := s.tickPlays.micros, plays := s.tickPlays.plays } := by
  unfold State.tickPlays
  split <;> rfl

/-- What an idle step without a due expiry can write. -/
theorem tick_frame (s : State) :
    s.tick = { s with
      micros := s.tick.micros, stage := s.tick.stage, plays := s.tick.plays, channels := s.tick.channels, lines := s.tick.lines,
      patterns := s.tick.patterns, watchdog := s.tick.watchdog } := by
  unfold State.tick
  split
  · rfl
  · rw [tickPlays_frame]

/-- A part held in reset counts no time (10 R182). -/
theorem tick_held (s : State) (h : s.stage = .held) : s.tick = s := by simp [State.tick, h]

end Sys2Proof.Machine
end

