-- ==== Sys2Proof/Tests/Slice0.lean ====
section
/-! SUPPORT. Tests of the author: ill-formed commands that the check refuses, the manual's worked numbers, small runs of one
step, and for every statement a state and operands that meet its hypotheses. -/

namespace Sys2Proof.Tests

open Sys2Proof Sys2Proof.Machine

set_option Elab.async false

/-! ## Well-formedness -/

theorem test_wf_reply_address_is_no_request : Instr.wf (.keepalive (.link 0x80) []) = false := by decide
theorem test_wf_address_7Fh_may_come : Instr.wf (.keepalive (.link 0x7F) []) = true := by decide
theorem test_wf_payload_of_61 : Instr.wf (.save .servicePort (List.replicate 61 0)) = false := by decide
theorem test_wf_payload_of_60 : Instr.wf (.save .servicePort (List.replicate 60 0)) = true := by decide
theorem test_wf_known_code_is_no_bad_request : Instr.wf (.badRequest (.link 1) 0x30) = false := by decide
theorem test_wf_broadcast_is_for_this_unit : Instr.wf (.frameForAnotherUnit 0) = false := by decide
theorem test_wf_play_ids :
    (Instr.wf (.delayExpiry 0), Instr.wf (.rampStepExpiry 25), Instr.wf (.holdExpiry 25), Instr.wf (.fadeStepExpiry 0)) =
      (false, false, false, false) := by decide
theorem test_wf_channels :
    (Instr.wf (.retryExpiry 0), Instr.wf (.goodRunExpiry 17), Instr.wf (.openLoadDetection 17),
      Instr.wf (.faultConditionChange 0 .short true), Instr.wf (.trip 17 .short)) =
      (false, false, false, false, false) := by decide
theorem test_wf_open_load_is_no_trip : Instr.wf (.trip 1 .openLoad) = false := by decide
theorem test_wf_samples : (Instr.wf (.temperatureSample (-41)), Instr.wf (.temperatureSample 201)) = (false, false) := by decide
theorem test_wf_lines : (Instr.wf (.rawLevelChange 0 .low), Instr.wf (.debounceExpiry 9)) = (false, false) := by decide
theorem test_wf_patterns : (Instr.wf (.windowExpiry 0), Instr.wf (.windowExpiry 17)) = (false, false) := by decide

/-- No word spells a command: the table gives no row any bits. -/
theorem test_no_word_spells_a_command : decodeTableWord 8 0x30 = none := rfl

/-! ## The manual's worked numbers -/

set_option maxRecDepth 4000 in
theorem test_crc_worked_frames :
    (crc8 [0x01, 0x00, 0x05], crc8 [0xFF, 0x00], crc8 [0x03, 0x01, 0x30, 0x0C]) = (0x70, 0xD7, 0x8C) := by decide

theorem test_curves_at_192 :
    (curveValue .linear 192, curveValue .square 192, curveValue .cube 192, curveValue .switch 127) =
      (3083, 2321, 1747, 0) := by decide

theorem test_scaled_levels :
    (scaledLevel 2519 200 255, scaledLevel 1747 180 200, scaledLevel 4095 100 50, scaledLevel 16 1 255) =
      (1975, 967, 314, 0) := by decide

theorem test_fade_series : (List.range 8).map (fadeLevel 1975 8) = [1975, 1728, 1481, 1234, 987, 740, 493, 246] := by decide

theorem test_derate_at_2000 : deratedLevel 2000 160 = 1250 := by decide

theorem test_reading_rounds_down : ((-37 : Int).fdiv 4, (1853 : Int).fdiv 16) = (-10, 115) := by decide

theorem test_thermal_table :
    [(ThermalState.normal, (116 : Int)), (.warn, 130), (.warn, 135), (.shutdown, 128), (.shutdown, 125), (.warn, 105)].map
        (fun p => thermalStep Items.factory p.1 p.2) =
      [(.warn, some .thermalWarn), (.warn, none), (.shutdown, some .thermalShutdown), (.shutdown, none), (.warn, none),
        (.normal, none)] := by decide

theorem test_service_port_addresses :
    (spAddressOf false false, spAddressOf false true, spAddressOf true false, spAddressOf true true) =
      (0x30, 0x31, 0x32, 0x33) := by decide

theorem test_factory_pattern_bytes : PatternRecord.factory.bytes = [0x00, 0x01, 0x01, 0x00, 0x14, 0x00, 0x01] := by decide

theorem test_empty_record_is_16_bytes : CueRecord.empty.bytes.length = 16 := by decide

theorem test_config_block_is_49_bytes : Items.factory.bytes.length = 49 := by decide

/-! ## Small states -/

/-- A cue on CH1 with a ramp 0 to 2, release fade 4 and this end action. -/
def cue (e : EndAction) : CueRecord :=
  { CueRecord.empty with
    priority := 4, channels := [⟨1, 255⟩], stopStep := 2, stepPeriod := 5, releaseFade := 4, endAction := e }

/-- RUNNING, with cue 1 (RELEASE, held) and nothing playing. -/
def idleState : State :=
  { State.reset with stage := .running, slots := put1 State.reset.slots 1 ⟨.held, 1, cue .release⟩ }

/-- A play of cue 1 in this phase, from the Building Link, whose timer has run out. -/
def playIn (phase : Phase) : Play :=
  { cue := 1, source := .buildingLink, priority := 4, phase := phase, step := 1, timer := 0, repeats := .times 0,
    pendingRestart := false }

/-- RUNNING with cue 1 holding record `r` and play 1 running it. -/
def playing (r : CueRecord) (phase : Phase) : State :=
  { idleState with
    slots := put1 State.reset.slots 1 ⟨.held, 1, r⟩
    plays := put1 State.reset.plays 1 (some (playIn phase))
    claims := put1 State.reset.claims 1 [1] }

/-- RUNNING with IN1 enabled, its accepted level HIGH, and pattern 1 waiting for PRESS(1) as its second of two elements. -/
def wired (raw : LineLevel) (timer : Option Nat) : State :=
  { idleState with
    config := { Items.factory with lines := put1 Items.factory.lines 1 ⟨true, .low, .ms20⟩ }
    lines := put1 State.reset.lines 1 ⟨raw, some .high, timer⟩
    patterns := put1 State.reset.patterns 1 ⟨⟨true, [⟨1, .release⟩, ⟨1, .press⟩], 20, .trigger, 1⟩, 1, some 500000⟩ }

/-- Cue 1 sustains at level 32 on CH1, which is driven, its SHORT reported and measured. -/
def driving : State :=
  { playing (cue .sustain) .sustain with
    plays := put1 State.reset.plays 1 (some { playIn .sustain with step := 2, timer := 0 })
    channels := put1 State.reset.channels 1
      { Channel.initial with level := 32, goodRun := some 30000000, short := ⟨true, some 100⟩ } }

/-- CH1 TRIPPED, its owner's level 32. -/
def trippedState : State :=
  { driving with
    channels := put1 State.reset.channels 1
      { Channel.initial with state := .tripped, retryCount := 1, retryTimer := some 0, short := ⟨true, none⟩ } }

/-! ## One step each -/

theorem test_trigger_admits_play_1 :
    (match exec (.trigger (.link 1) [1]) idleState with
      | .next t => (t.play 1).map (fun p => (p.cue, p.phase, p.timer)) == some (1, .ramp, 5) &&
          t.claimList 1 == [1] && t.linkReply == .waiting ⟨.ok, [1]⟩ ⟨none, false⟩
      | _ => false) = true := by decide

theorem test_ramp_step_moves_up :
    (match exec (.rampStepExpiry 1) (playing (cue .release) .ramp) with
      | .next t => (t.play 1).map (fun p => (p.phase, p.step)) == some (.fadeout [⟨1, 32⟩] 0, 2)
      | _ => false) = true := by decide

theorem test_fade_completes_and_frees :
    (match exec (.fadeStepExpiry 1) (playing (cue .release) (.fadeout [⟨1, 16⟩] 3)) with
      | .next t => t.play 1 == none && t.claimList 1 == []
      | _ => false) = true := by decide

theorem test_watchdog_expiry_counts :
    (match exec .watchdogExpiry { idleState with watchdog := some 0 } with
      | .next t => t.fallbackOn && t.entryCount == 1 && t.atnLow && t.play 24 == none
      | _ => false) = true := by decide

theorem test_trip_forces_the_output_to_0 :
    (match exec (.trip 1 .short) driving with
      | .next t => (t.channel 1).map (fun x => (x.state, x.retryCount, x.level, x.retryTimer)) ==
          some (.tripped, 1, 0, some 500000) && t.raised .channelTrip
      | _ => false) = true := by decide

theorem test_retry_drives_again :
    (match exec (.retryExpiry 1) trippedState with
      | .next t => (t.channel 1).map (fun x => (x.state, x.retryCount, x.level, x.short.persistence)) ==
          some (.normal, 1, 32, some 0)
      | _ => false) = true := by decide

theorem test_debounce_completes_a_pattern :
    (match exec (.debounceExpiry 1) (wired .low (some 0)) with
      | .next t => t.raised .patternMatch && (t.play 1).map (·.source) == some (.input 1) &&
          (t.pattern 1).map (·.progress) == some 0
      | _ => false) = true := by decide

theorem test_load_end_on_a_bad_check_word :
    (match exec .imageLoadEnd { State.reset with checkGood := false } with
      | .next t => t.stage == .settling 500000 && t.imageValid == false && t.atnLow
      | _ => false) = true := by decide

theorem test_step_on_an_empty_queue_is_50_us :
    (match step { State.reset with stage := .settling 3000, watchdog := some 70 } with
      | .next t => t.stage == .settling 2950 && t.watchdog == some 20 && t.micros == 50
      | _ => false) = true := by decide

theorem test_play_timers_move_at_the_end_of_a_ms :
    [900, 950].map (fun micros =>
      match step { playing (cue .release) .ramp with
          micros := micros, plays := put1 State.reset.plays 1 (some { playIn .ramp with timer := 3 }) } with
      | .next t => (t.play 1).map (·.timer)
      | _ => none) = [some 3, some 2] := by decide

theorem test_expiry_behind_a_restart_does_not_come :
    (match exec (.trigger (.link 1) [1]) (playing { cue .release with stopStep := 0, releaseFade := 0 } .ramp) with
      | .next t =>
        match exec (.rampStepExpiry 1) t with
        | .next u => u == t && (u.play 1).isSome
        | _ => false
      | _ => false) = true := by decide

theorem test_window_time_left_is_in_whole_ms :
    [500000, 499950, 499050, 499000, 0].map msLeft = [500, 500, 500, 499, 0] := by decide

/-- The port has acknowledged a write to its address. -/
def written (s : State) : State := { s with spAck := true, spReply := .preparing, spWrite := .acknowledged }

/-- A whole write has come on the Service Port, and its request is about to be acted on. -/
def wholeWrite (s : State) : State := { s with spAck := true, spReply := .preparing }

theorem test_write_to_another_target_is_not_taken :
    (match exec (.spWriteStart 0x31) idleState with
      | .next t =>
        match exec (.freeze .servicePort []) t with
        | .next u => u == { t with spWrite := .none } && u.frozen == false
        | _ => false
      | _ => false) = true := by decide

theorem test_read_in_progress_is_cut_by_off :
    (match exec (.setServiceMode (.link 1) [3])
        { idleState with spReply := .ready ⟨.ok, [7]⟩, spReading := some [7, 9] } with
      | .next t =>
        match exec (.spRead none ⟨2, true⟩) t with
        | .next u => t.spReply == .none && u.spOut == [0xFF, 0xFF] && u.spReading == none
        | _ => false
      | _ => false) = true := by decide

theorem test_a_read_that_has_ended_supplies_nothing :
    (match exec (.spRead (some 0x30) ⟨1, true⟩) { idleState with spReply := .ready ⟨.ok, [7]⟩ } with
      | .next t =>
        match exec (.spRead none ⟨2, false⟩) t with
        | .next u => t.spOut == [0] && u == t && t.spReply == .ready ⟨.ok, [7]⟩
        | _ => false
      | _ => false) = true := by decide

theorem test_detection_before_its_time :
    (match exec (.trip 1 .short) { driving with config := { Items.factory with deglitch := .us200 } } with
      | .next t => (t.channel 1).map (·.state) == some .normal
      | _ => false) = true := by decide

theorem test_step_takes_a_due_expiry :
    (match step { State.reset with stage := .settling 0 } with
      | .next t => t.stage == .running && t.raised .restarted && t.ties == 1
      | _ => false) = true := by decide

/-! ## Witnesses: for every statement with hypotheses, states and operands that meet them, clause by clause -/

/-- A save that this port owns, of the factory contents. -/
def savingBy (p : Port) : State := { idleState with store := .saving p Image.factory, checkGood := false, imageValid := false }

/-- Fallback is on, its count 7, and record 24 plays cue 1 in this phase. -/
def inFallback (phase : Phase) : State :=
  { idleState with
    fallbackOn := true, entryCount := 7, claims := put1 State.reset.claims 1 [24]
    plays := put1 State.reset.plays 24 (some { playIn phase with source := .fallback, priority := 16 }) }

/-- Slot 1 is HELD and without a play; records 1..n play the cues 2..n+1, all on CH1 at priority 4, six of them claiming it. -/
def crowded (n : Nat) : State :=
  { idleState with
    plays := mapBank1 (fun id _ => if id ≤ n then some { playIn .ramp with cue := id + 1 } else none) State.reset.plays
    claims := put1 State.reset.claims 1 (List.range' 1 6) }

/-- Cue 1 in HOLD chains to cue 2, whose slot holds a cue on CH2 of this policy. -/
def chaining (status : SlotStatus) (policy : Policy) (second : Option Play) : State :=
  let s := playing (cue (.chain 2)) .hold
  { s with
    slots := put1 s.slots 2 ⟨status, 1, { cue .release with channels := [⟨2, 255⟩], policy := policy }⟩
    plays := put1 s.plays 2 second }

def secondPlay : Play := { playIn .ramp with cue := 2 }

/-- A held cue with this status in slot 1. -/
def slotIs (s : State) (status : SlotStatus) : State := { s with slots := put1 s.slots 1 ⟨status, 1, cue .sustain⟩ }

theorem wit_taken_other :
    Taken idleState .other (.link 1) idleState .unicast ∧ Taken idleState .other (.link 0) idleState .group ∧
      Taken idleState .other .servicePort (wholeWrite idleState) .servicePort := ⟨⟨rfl, rfl, by decide⟩, ⟨rfl, rfl, by decide⟩, ⟨rfl, rfl, by decide⟩⟩

theorem wit_taken_reading :
    Taken idleState .reading (.link 1) idleState .unicast ∧ Taken idleState .reading .servicePort (wholeWrite idleState) .servicePort :=
  ⟨⟨rfl, rfl, by decide⟩, ⟨rfl, rfl, by decide⟩⟩

theorem wit_taken_link_only :
    Taken idleState .linkOnly (.link 1) idleState .unicast ∧ Taken idleState .linkOnly (.link 0) idleState .group :=
  ⟨⟨rfl, rfl, by decide⟩, ⟨rfl, rfl, by decide⟩⟩

/-- A request is taken in every other state that the witnesses below use. -/
theorem wit_taken_elsewhere :
    [savingBy .servicePort, inFallback .ramp, crowded 6, playing (cue .sustain) .sustain, slotIs idleState .retiring].all
      (fun s => s.receive (.link 1) = (s, some .unicast) ∧ s.portCheck .other .unicast = none ∧
        s.portCheck .linkOnly .unicast = none) = true := by decide +kernel

theorem wit_IdleStep :
    State.reset.pending = [] ∧ State.reset.due = [] ∧ State.reset.stage ≠ .held ∧ State.reset.frozen = false ∧
      { State.reset with stage := .settling 0 }.due = [.entryToRunning] ∧
      { idleState with frozen := true, watchdog := some 0 }.due = [.watchdogExpiry] ∧
      { State.reset with micros := 950 }.due = [] ∧ { State.reset with stage := .held }.due = [] := by decide +kernel

/-- A unicast reply waits, with a unit address of 5 or with a reset. -/
def waiting (reset : Bool) : State :=
  { idleState with linkReply := .waiting ⟨.ok, []⟩ ⟨if reset then none else some 5, reset⟩ }

/-- A whole frame that drops a waiting reply is sorted by the address that comes into force, or after the reset. -/
theorem wit_GoodFrames_while_a_reply_waits :
    (waiting false).stage ≠ .held ∧
      (waiting false).receive (.link 5) = ({ idleState with linkAddress := 5 }, some .unicast) ∧
      (waiting false).receive (.link 1) = ({ idleState with linkAddress := 5 }, none) ∧
      ((waiting true).receive (.link 1)).2 = some .unicast ∧ ((waiting true).receive (.link 1)).1.running = false ∧
      ((waiting true).receive (.link 0)).2 = some .group ∧ ((waiting true).receive (.link 2)).2 = none := by decide +kernel

theorem wit_GoodFrames :
    idleState.stage ≠ .held ∧ idleState.linkReply = .idle ∧ idleState.running = true ∧ idleState.linkAddress = 1 ∧
      (0x5F : Byte).toNat ∈ { idleState.config with groups := [64, 95] }.groups ∧
      ¬((0x81 : Byte) = 0 ∨ (0x81 : Byte).toNat ∈ idleState.config.groups) := by decide +kernel

theorem wit_PortChecks :
    requestOf (.readStatus (.link 0) []) = some (.reading, .link 0) ∧ idleState.receive (.link 0) = (idleState, some .group) ∧
      idleState.receive (.link 2) = (idleState, none) ∧ State.reset.receive .servicePort = (wholeWrite State.reset, some .servicePort) ∧
      State.reset.running = false ∧ idleState.running = true ∧ requestOf (.badRequest .servicePort 0) = some (.unknown, .servicePort) ∧
      requestOf (.reset .servicePort []) = some (.linkOnly, .servicePort) ∧ idleState.serviceMode.behaves ≠ .readOnly ∧
      { idleState with serviceMode := .plain .readOnly }.receive .servicePort =
        (wholeWrite { idleState with serviceMode := .plain .readOnly }, some .servicePort) := by decide +kernel

theorem wit_lookups :
    readOne 1 64 [0] = none ∧ readOne 1 64 [1] = some 1 ∧ readOne 1 64 [64] = some 64 ∧ readOne 1 64 [65] = none ∧
      readFirst 64 [] = some 1 ∧ readFirst 64 [0] = none ∧ readLabel [] = none ∧ readLabel [0x20, 0x7E] = some [0x20, 0x7E] ∧
      readLabel [0x7F] = none ∧ readQueryPlay [24, 16] = some (24, 16) ∧ readQueryPlay [25] = none ∧
      readOne 1 16 [16] = some 16 ∧ readOne 1 16 [17] = none ∧ (idleState.channel 16).isSome ∧
      (idleState.pattern 16).isSome := by decide +kernel

/-- WRITE_CUE into slot 64 of CH16 at scale 255, priority 15, chained to cue 64, with trim and expected revision. -/
def writeBytes : List Byte := [64, 3, 0, 1, 0x7E, 15, 3, 0, 255, 1, 255, 7, 0, 0, 3, 64, 2, 255, 1, 16, 255, 255]

theorem wit_WriteCue :
    (readWriteCue writeBytes).isSome = true ∧ readWriteCue [0] = none ∧ (idleState.slot 64).status = .free ∧
      idleState.playOf 64 = none ∧ idleState.store = .idle ∧ (savingBy .servicePort).store ≠ .idle ∧
      ((readWriteCue writeBytes).bind (·.expected)) = some (idleState.slot 64).revision := by decide +kernel

theorem wit_Records :
    (∃ r, readWriteCue writeBytes = some ⟨64, some 0, r⟩ ∧ r.Valid) ∧ (cue (.repeating 15)).Valid ∧ (cue (.chain 1)).Valid ∧
      readWritePattern (16 :: PatternRecord.factory.bytes) = some (16, PatternRecord.factory) ∧
      PatternRecord.factory.Valid :=
  ⟨⟨_, rfl, by decide, by decide, by decide, by decide, by decide, by decide, by decide, (by decide : 1 ≤ 64 ∧ 64 ≤ 64)⟩,
    ⟨by decide, by decide, by decide, by decide, by decide, by decide, by decide, (by decide : 15 ≤ 15)⟩,
    ⟨by decide, by decide, by decide, by decide, by decide, by decide, by decide, (by decide : 1 ≤ 1 ∧ 1 ≤ 64)⟩, rfl, by decide⟩

/-- SET_CONFIG entries, one at the edge of each shape, and two together whose thresholds agree only at the end. -/
theorem wit_Items :
    Items.factory.warn + 10 ≤ Items.factory.shutdown ∧
      (readSetConfig Items.factory [0x57, 50]).map Items.factory.applyAll =
        some { Items.factory with lines := put1 Items.factory.lines 8 { LineItems.factory with debounce := .ms50 } } ∧
      readSetConfig Items.factory [0x02, 4, 64, 65, 66, 95] = some [.groups [64, 65, 66, 95]] ∧
      readSetConfig Items.factory [0x02, 5, 64, 65, 66, 67, 95] = none ∧ readSetConfig Items.factory [0x60, 0x80, 0] = none ∧
      readSetConfig Items.factory [0x58, 0] = none ∧ readSetConfig Items.factory [0x39, 140] = none ∧
      readSetConfig { Items.factory with shutdown := 160 } [0x39, 140] = some [.warn 140] ∧
      readSetConfig Items.factory [0x3A, 160] = some [.shutdown 160] ∧
      readSetConfig Items.factory [0x39, 140, 0x3A, 160] = some [.warn 140, .shutdown 160] := by decide +kernel

theorem wit_SetTrim :
    readSetTrim [1, 0] = some (1, 0, none) ∧ readSetTrim [64, 255, 1] = some (64, 255, some 1) ∧ readSetTrim [65, 0] = none ∧
      (idleState.slot 1).status = .held ∧ (idleState.slot 2).status = .free ∧
      ((slotIs idleState .retiring).slot 1).status = .retiring := by decide +kernel

theorem wit_RetireRefused :
    readRetire [] = none ∧ readRetire [1, 1] = some (1, true) ∧ readRetire [64, 0] = some (64, false) ∧ readRetire [1, 2] = none ∧
      { idleState with config := { Items.factory with fallbackCue := 1 } }.config.fallbackCue = 1 ∧
      ((inFallback .ramp).play 24).map (fun p => (p.source, p.cue)) = some (.fallback, 1) ∧
      ((inFallback .ramp).slot 1).status = .held := by decide +kernel

theorem wit_RetireAccepted :
    idleState.store = .idle ∧ (idleState.slot 1).status = .held ∧ idleState.config.fallbackCue ≠ 1 ∧ idleState.play 24 = none ∧
      idleState.playOf 1 = none ∧ (playing (cue .sustain) .ramp).playOf 1 = some 1 ∧
      ((playing (cue .sustain) .ramp).play 1).map (·.phase) = some .ramp ∧
      ((playing (cue .sustain) .sustain).play 1).map (·.phase) = some .sustain := by decide +kernel

theorem wit_RefusedTriggers :
    readTrigger [1, 16] = none ∧ readTrigger [64, 15] = some (64, some 15) ∧ readTrigger [1] = some (1, none) ∧
      (inFallback .ramp).playOf 1 = some 24 ∧ (crowded 23).ordinaryTotal = 23 ∧ (crowded 23).playOf 1 = none ∧
      ((crowded 6).slot 1).status = .held ∧ (crowded 6).playOf 1 = none ∧ (crowded 6).ordinaryTotal = 6 ∧
      (crowded 6).admissionCheck [1] 4 = .fails 1 := by decide +kernel

theorem wit_Retriggers :
    [Policy.restart, .queue, .ignore].all (fun policy =>
      let s := playing { cue .release with policy := policy } .ramp
      s.playOf 1 = some 1 ∧ (s.slot 1).status = .held ∧ (s.slot 1).record.policy = policy ∧
        (s.play 1).map (·.source) = some .buildingLink ∧ s.receive (.link 1) = (s, some .unicast) ∧
        s.receive .servicePort = (wholeWrite s, some .servicePort)) = true := by decide +kernel

theorem wit_Admitted :
    idleState.playOf 1 = none ∧ idleState.ordinaryTotal < 23 ∧ FallbackKept idleState ∧
      idleState.admissionCheck [1] 4 = .admits [] ∧ (crowded 6).admissionCheck [1] 5 = .admits [6] ∧ FallbackKept (crowded 6) ∧
      ((crowded 6).play 6).isSome = true ∧ (crowded 22).ordinaryTotal = 22 ∧ [6].Nodup := by decide +kernel

/-- The evicted play's slot is RETIRING. -/
theorem wit_Admitted_over_a_retiring_cue :
    (let s := { crowded 6 with slots := put1 (crowded 6).slots 7 ⟨.retiring, 1, cue .sustain⟩ }
     (s.play 6).map (·.cue) = some 7 ∧ s.admissionCheck [1] 5 = .admits [6] ∧ FallbackKept s ∧ s.playOf 1 = none) := by
  decide +kernel

theorem wit_Release :
    readOne 1 64 [] = none ∧ idleState.playOf 1 = none ∧ (playing (cue .sustain) .sustain).playOf 1 = some 1 ∧
      (playIn .sustain).phase.beforeFade = true ∧ (playIn (.fadeout [] 0)).phase.beforeFade = false ∧
      (inFallback .ramp).playOf 1 = some 24 := by decide +kernel

theorem wit_ReleaseAll :
    readOne 0 15 [16] = none ∧ readOne 0 15 [15] = some 15 ∧ readOne 0 15 [0] = some 0 ∧
      ((playing (cue .sustain) .sustain).play 1).map (fun x => (x.source, x.priority)) = some (.buildingLink, 4) ∧
      ((inFallback .ramp).play 24).map (·.source) = some .fallback := by decide +kernel

/-- A play that fades, one that ends at once and frees its slot, and one that fades already: each with the claims in order. -/
theorem wit_ReleaseAll_acts :
    ClaimsKept driving ∧ ((cue .sustain).releaseFade ≠ 0) ∧
      (let s := slotIs (playing (cue .sustain) .ramp) .retiring
       let t := { s with slots := put1 s.slots 1 ⟨.retiring, 1, { cue .sustain with releaseFade := 0 }⟩ }
       ClaimsKept t ∧ (t.slot 1).status = .retiring) ∧
      ClaimsKept (playing (cue .sustain) (.fadeout [⟨1, 16⟩] 2)) := by
  refine ⟨?_, ?_, ?_, ?_⟩ <;> decide +kernel

theorem wit_WritePattern :
    readWritePattern [] = none ∧ idleState.store = .idle ∧ (savingBy .buildingLink).store ≠ .idle := by decide +kernel

theorem wit_ClearFault :
    LevelsFollowTheOwners trippedState ∧ (∀ x ∈ trippedState.channels.toList, x.Kept) ∧
      (1 ≤ [1, 16].length ∧ [1, 16].length ≤ 16 ∧ (∀ c ∈ [1, 16], 1 ≤ c ∧ c ≤ 16) ∧ [1, 16].Nodup) ∧
      ¬(∀ c ∈ [0], 1 ≤ c ∧ c ≤ 16) ∧ ¬(∀ c ∈ [17], 1 ≤ c ∧ c ≤ 16) ∧ ¬[1, 1].Nodup := by decide +kernel

theorem wit_SetConfig :
    readSetConfig Items.factory [] = none ∧ readSetConfig Items.factory [0x39, 126] = none ∧
      readSetConfig Items.factory [0x39, 125] = some [.warn 125] ∧
      readSetConfig Items.factory [0x01, 63, 0x10, 255, 0x38, 32, 0x40, 1, 0x57, 0] =
        some [.unitAddress 63, .watchdogPeriod 255, .averaging .n32, .lineEnabled 1 true, .lineDebounce 8 .ms0] := by decide +kernel

theorem wit_DeglitchAndGoodRun :
    ChannelsKept driving ∧ driving.store = .idle ∧ driving.receive (.link 1) = (driving, some .unicast) ∧
      readSetConfig driving.config [0x33, 3, 0x32, 0] = some [.deglitch .us400, .goodRunTime 0] ∧
      readSetConfig driving.config [0x32, 255] = some [.goodRunTime 255] := by decide +kernel

theorem wit_SaveEnds :
    (savingBy .servicePort).store = .saving .servicePort Image.factory ∧
      { savingBy .servicePort with serviceMode := .offPending .openMode }.store ≠ .idle ∧
      idleState.serviceMode = .plain .openMode := by decide +kernel

theorem wit_ClearEvents :
    (0x7F : Byte).msb = false ∧ readEvents [0x80, 0] = none ∧ idleState.atnLow = false ∧
      { idleState with flags := 0x1B20 }.atnLow = true := by decide +kernel

theorem wit_FallbackExit :
    readToken [] = none ∧ idleState.fallbackOn = false ∧ (inFallback .ramp).fallbackOn = true ∧
      (inFallback .ramp).entryCount = 7 ∧ idleState.play 24 = none ∧
      ((inFallback (.fadeout [] 0)).play 24).map (·.phase.beforeFade) = some false ∧
      ((inFallback .ramp).play 24).map (·.phase.beforeFade) = some true := by decide +kernel

theorem wit_ServiceMode :
    readMode [4] = none ∧ readMode [0] = some .openMode ∧ readMode [3] = some .off ∧
      (savingBy .servicePort).store = .saving .servicePort Image.factory ∧
      (savingBy .buildingLink).store = .saving .buildingLink Image.factory ∧ idleState.store = .idle := by decide +kernel

theorem wit_Receiver :
    idleState.stage ≠ .held ∧ idleState.linkReply = .idle ∧ idleState.receiver = .hunting ∧
      { idleState with receiver := .receiving }.receiver = .receiving ∧
      { idleState with linkReply := .sending [] ⟨none, false⟩ }.linkReply = .sending [] ⟨none, false⟩ ∧
      (waiting false).stage ≠ .held ∧ (waiting false).receiver = .hunting ∧
      (waiting false).linkReply = .waiting ⟨.ok, []⟩ ⟨some 5, false⟩ ∧
      (waiting true).linkReply = .waiting ⟨.ok, []⟩ ⟨none, true⟩ := by decide +kernel

theorem wit_Replies :
    { idleState with linkReply := .waiting ⟨.ok, [2]⟩ ⟨some 5, false⟩ }.linkReply = .waiting ⟨.ok, [2]⟩ ⟨some 5, false⟩ ∧
      { idleState with linkReply := .sending [] ⟨none, true⟩ }.linkReply = .sending [] ⟨none, true⟩ := by decide +kernel

theorem wit_ServicePort :
    idleState.stage ≠ .held ∧ idleState.serviceMode.behaves = .openMode ∧ idleState.spAddress = 0x30 ∧
      idleState.spReply ≠ .preparing ∧ { idleState with stage := .held, spReply := .preparing }.spReply = .preparing ∧
      { idleState with serviceMode := .offPending .readOnly }.serviceMode.behaves = .readOnly ∧
      idleState.spWrite = .none ∧ (written idleState).spWrite = .acknowledged ∧
      { idleState with spWrite := .refused }.spWrite = .refused ∧ idleState.spReading = none ∧
      { idleState with spReading := some [7] }.spReading = some [7] ∧
      { written idleState with serviceMode := .plain .silent }.spListens = false ∧
      { idleState with serviceMode := .plain .off }.spListens = false := by decide +kernel

theorem wit_RampStep :
    let s := playing (cue .sustain) .ramp
    s.play 1 = some (playIn .ramp) ∧ (playIn .ramp).timer = 0 ∧ s.frozen = false ∧ (1 : Byte) + 1 = (cue .sustain).stopStep ∧
      (0 : Byte) + 1 ≠ (cue .sustain).stopStep ∧ (s.slot 1).status ≠ .retiring ∧
      ((slotIs s .retiring).slot 1).status = .retiring ∧ { cue .release with hold := ⟨1, 0⟩ }.hold.count ≠ 0 := by decide +kernel

theorem wit_EndActions :
    (playing (cue (.repeating 2)) .hold).play 1 = some (playIn .hold) ∧
      ((playing (cue (.repeating 2)) .hold).recordOf (playIn .hold)).endAction = .repeating 2 ∧
      ((playing (cue .release) .ramp).recordOf (playIn .ramp)).hold.count = 0 ∧
      stepToward (playIn .ramp).step (cue .release).stopStep = (cue .release).stopStep ∧
      ((slotIs (playing (cue .release) .hold) .retiring).slot 1).status = .retiring := by decide +kernel

theorem wit_Chains :
    ((chaining .free .restart none).slot 2).status ≠ .held ∧ (chaining .held .restart none).playOf 2 = none ∧
      (chaining .held .restart none).play 1 = some (playIn .hold) ∧
      ((chaining .held .restart none).recordOf (playIn .hold)).endAction = .chain 2 ∧
      (chaining .held .restart none).admissionCheck [2] 4 (some 1) = .admits [] ∧
      ((playing (cue (.chain 1)) .hold).recordOf (playIn .hold)).endAction = .chain 1 ∧
      [Policy.restart, .queue, .ignore].all (fun policy =>
        (chaining .held policy (some secondPlay)).playOf 2 = some 2 ∧
          (chaining .held policy (some secondPlay)).play 2 = some secondPlay) = true ∧
      (chaining .held .queue (some { secondPlay with source := .fallback })).playOf 2 = some 2 := by decide +kernel

/-- Cue 1 in HOLD chains to cue 2, of this priority, on CH2, whose list is full. -/
def packed (own : Nat) : State :=
  { idleState with
    slots := mapBank1 (fun n x =>
      if n = 1 then ⟨.held, 1, cue (.chain 2)⟩
      else if n = 2 then ⟨.held, 1, { cue .release with channels := [⟨2, 255⟩], priority := own }⟩
      else if n ≤ 8 then ⟨.held, 1, { cue .release with channels := [⟨2, 255⟩] }⟩
      else x) State.reset.slots
    plays := mapBank1 (fun id _ =>
      if id ≤ 6 then some { playIn .ramp with cue := id + 2 } else if id = 7 then some (playIn .hold) else none) State.reset.plays
    claims := put1 (put1 State.reset.claims 2 (List.range' 1 6)) 1 [7] }

/-- The fallback play, of cue 1 in this phase, chains to cue 2, which has a play. -/
def fallbackChains (phase : Phase) : State :=
  let s := chaining .held .restart (some secondPlay)
  { s with
    fallbackOn := true
    plays := put1 (put1 s.plays 1 none) 24 (some { playIn phase with source := .fallback, priority := 16 })
    claims := put1 (put1 s.claims 1 [24]) 2 [2] }

theorem wit_Chains_hand_over :
    ClaimsKept (packed 5) ∧ (packed 5).play 7 = some (playIn .hold) ∧ (packed 5).playOf 2 = none ∧
      (packed 5).admissionCheck [2] 5 (some 7) = .admits [6] ∧ (packed 4).admissionCheck [2] 4 (some 7) = .fails 2 ∧
      FallbackKept (fallbackChains .hold) ∧ ClaimsKept (fallbackChains .hold) ∧ (fallbackChains .hold).playOf 2 = some 2 ∧
      ((fallbackChains .hold).play 24).map (fun p => (p.source, p.phase)) = some (.fallback, .hold) ∧
      (let s := { chaining .held .restart none with plays := put1 State.reset.plays 1 (some { playIn .ramp with step := 2 }) }
       ((s.recordOf (playIn .ramp)).hold.count = 0 ∧ stepToward 2 (s.recordOf (playIn .ramp)).stopStep = 2 ∧
         s.play 1 = some { playIn .ramp with step := 2 })) := by
  refine ⟨?_, ?_, ?_, ?_, ?_, ?_, ?_, ?_, ?_, ?_⟩ <;> decide +kernel

theorem wit_DelaysAndFades :
    (playing (cue .release) .delay).play 1 = some (playIn .delay) ∧ (playing (cue .release) .delay).frozen = false ∧
      { playing (cue .release) .delay with frozen := true }.frozen = true ∧ { playIn .delay with timer := 5 }.timer ≠ 0 ∧ (cue .release).releaseFade.toNat = 3 + 1 ∧
      (playing (cue .release) (.fadeout [⟨1, 16⟩] 2)).play 1 = some (playIn (.fadeout [⟨1, 16⟩] 2)) ∧
      { playIn (.fadeout [⟨1, 16⟩] 3) with pendingRestart := true }.pendingRestart = true := by decide +kernel

/-- The watchdog of `s` has run out, with cue `n` as fallback cue. -/
def expired (s : State) (n : Nat) : State := { s with watchdog := some 0, config := { Items.factory with fallbackCue := n } }

/-- The watchdog has run out, with cue 1 as fallback cue. -/
def deaf : State := expired idleState 1

/-- Record 24 fades a play of cue 1, and slot 2 is HELD. -/
def fading : State :=
  { inFallback (.fadeout [⟨1, 16⟩] 2) with
    fallbackOn := false, slots := put1 (inFallback .ramp).slots 2 ⟨.held, 1, cue .sustain⟩ }

/-- A new fallback play, a converted one, one that restarts, and one that follows the play of another cue. -/
theorem wit_WatchdogExpiry_makes_a_play :
    FallbackKept deaf ∧ ClaimsKept deaf ∧ deaf.play 24 = none ∧ deaf.playOf 1 = none ∧
      FallbackKept (expired (playing (cue .sustain) .ramp) 1) ∧ ClaimsKept (expired (playing (cue .sustain) .ramp) 1) ∧
      (expired (playing (cue .sustain) .ramp) 1).playOf 1 = some 1 ∧
      FallbackKept (expired fading 1) ∧ FallbackKept (expired fading 2) ∧ ClaimsKept (expired fading 2) ∧
      (fading.play 24).map (·.cue) = some 1 ∧ (fading.slot 2).status = .held := by
  refine ⟨?_, ?_, ?_, ?_, ?_, ?_, ?_, ?_, ?_, ?_, ?_, ?_⟩ <;> decide +kernel

theorem wit_WatchdogExpiry :
    deaf.watchdog = some 0 ∧ idleState.watchdog ≠ some 0 ∧ { idleState with watchdog := some 1 }.watchdog ≠ some 0 ∧
      FallbackKept deaf ∧ (1 ≤ deaf.config.fallbackCue ∧ (deaf.slot 1).status = .held) ∧
      ¬(1 ≤ idleState.config.fallbackCue) ∧ FallbackKept { idleState with watchdog := some 0 } := by decide +kernel

theorem wit_Conditions :
    ChannelsKept driving ∧ (driving.channel 1).map (fun x => (x.level, x.openLoadFlag)) = some (32, false) ∧
      ChannelsKept idleState ∧ (idleState.channel 16).map (·.level) = some 0 := by decide +kernel

/-- CH1 has tripped three times, and its SHORT has persisted for this long. -/
def worn (time : Nat) : State :=
  { driving with
    channels := put1 State.reset.channels 1 { Channel.initial with level := 32, short := ⟨true, some time⟩, retryCount := 3 } }

theorem wit_Detections :
    (driving.channel 1).map (fun x => ((x.sense .short).persistence, x.state)) = some (some 100, .normal) ∧
      driving.config.deglitch = .us100 ∧ ChannelsKept (worn 100) ∧ (worn 100).config.maxRetries < 3 + 1 ∧
      ChannelsKept (worn 99) ∧ ((worn 99).channel 1).map (·.short.persistence) = some (some 99) := by
  refine ⟨?_, ?_, ?_, ?_, ?_, ?_⟩ <;> decide +kernel

/-- Cue 1 sustains at 4095 on CH1, whose stage reports OPEN_LOAD. -/
def unloaded : State :=
  { playing { cue .sustain with stopStep := 255 } .sustain with
    plays := put1 State.reset.plays 1 (some { playIn .sustain with step := 255, timer := 0 })
    channels := put1 State.reset.channels 1 { Channel.initial with level := 4095, openLoad := ⟨true, some 100⟩ } }

theorem wit_OpenLoad :
    ChannelsKept unloaded ∧
      (unloaded.channel 1).map (fun x => ((x.sense .openLoad).persistence.isSome, x.state)) = some (true, .normal) := by decide +kernel

theorem wit_Retry :
    ChannelsKept trippedState ∧ (trippedState.channel 1).map (·.state) = some .tripped ∧ ChannelsKept driving ∧
      (driving.channel 1).map (·.goodRun) = some (some 30000000) ∧ driving.config.goodRunTime.toNat * 1000000 ≤ 30000000 ∧
      (trippedState.channel 1).map (·.retryTimer) = some (some 0) ∧ (driving.channel 1).map (·.retryTimer) = some none ∧
      (idleState.channel 1).map (·.goodRun) = some none := by
  refine ⟨?_, ?_, ?_, ?_, ?_, ?_, ?_, ?_⟩ <;> decide +kernel

theorem wit_Samples :
    idleState.stage ≠ .held ∧ ThermalKept idleState ∧ idleState.thermal.count + 1 < idleState.config.averaging.samples ∧
      { idleState.thermal with count := 15 }.count + 1 = idleState.config.averaging.samples := by decide +kernel

theorem wit_RawLevels :
    (wired .high none).watches 1 = true ∧ ((wired .high none).line 1).map (·.accepted) = some (some .high) ∧
      ((wired .low (some 0)).line 1).map (fun x => (x.raw, x.timer)) = some (.low, some 0) ∧
      ((wired .low (some 50)).line 1).map (·.timer) = some (some 50) ∧ (wired .low (some 0)).watches 1 = true ∧
      (wired .high none).watches 2 = false ∧ ((wired .high none).lineItems 1).debounce ≠ .ms0 ∧
      { LineItems.factory with debounce := .ms0 }.debounce = .ms0 := by decide +kernel

theorem wit_InputEvents :
    ((wired .high none).pattern 1).map (fun x => (x.record.enabled, x.record.elements[x.progress]?, x.progress + 1,
        x.record.elements.length, x.window)) = some (true, some ⟨1, .press⟩, 2, 2, some 500000) ∧
      (Pattern.mk PatternRecord.factory 1 (some 0)).window = some 0 ∧ (Pattern.idle PatternRecord.factory).window ≠ some 0 ∧
      ((wired .high none).pattern 16).map (·.record.enabled) = some false ∧
      ((wired .high none).pattern 1).map (·.record.elements.head?) = some (some ⟨1, .release⟩) := by decide +kernel

/-- Pattern 1 completes with this action, while cue 1 plays in this phase. -/
def acting (action : PatternAction) (phase : Phase) : State :=
  { playing (cue .sustain) phase with
    lines := (wired .high none).lines
    patterns := put1 State.reset.patterns 1 ⟨⟨true, [⟨1, .release⟩, ⟨1, .press⟩], 20, action, 1⟩, 1, some 500000⟩ }

/-- Each action has its play to act on, and the outputs follow. -/
theorem wit_InputEvents_act :
    [PatternAction.trigger, .release, .toggle].all (fun action =>
      ((acting action .sustain).pattern 1).any (·.record.action == action) &&
        (acting action .sustain).completedBy ⟨1, .press⟩ == [1] && (acting action .sustain).playOf 1 == some 1) = true ∧
      ((State.inputEvent (acting .release .sustain) ⟨1, .press⟩).play 1).map (·.phase.beforeFade) = some false ∧
      ((State.inputEvent (acting .toggle .ramp) ⟨1, .press⟩).play 1).map (·.phase.beforeFade) = some false ∧
      ((State.inputEvent (acting .toggle (.fadeout [⟨1, 16⟩] 2)) ⟨1, .press⟩).play 1).map (·.source) = some (.input 1) ∧
      ((State.inputEvent (acting .trigger .sustain) ⟨1, .press⟩).play 1).map (·.source) = some (.input 1) ∧
      (State.inputEvent { acting .trigger .sustain with slots := State.reset.slots } ⟨1, .press⟩).lastRefusal =
        some ⟨1, .input 1, .noCue, 0⟩ := by decide +kernel

theorem wit_Resets :
    State.reset.rstnLow = false ∧ State.reset.powered = true ∧ { State.reset with rstnLow := true }.rstnLow = true ∧
      State.reset.stage = .loading ∧ State.reset.checkGood = true := by decide +kernel

/-- The settle delay is over, with cue 1 as start cue. -/
def starting (status : SlotStatus) : State :=
  { slotIs State.reset status with
    stage := .settling 0, config := { Items.factory with startPolicy := .startCue, startCue := 1 } }

theorem wit_EntryToRunning :
    (starting .held).stage = .settling 0 ∧ (∀ id ∈ playIds, (starting .held).play id = none) ∧
      (∀ c ∈ channelIds, (starting .held).claimList c = []) ∧ ((starting .held).slot 1).status = .held ∧
      ((starting .free).slot 1).status = .free ∧ (starting .held).fallbackOn = false ∧ (starting .held).watchdog = none ∧
      State.reset.config.startPolicy = .dark := by decide +kernel

/-- The settle delay is over, and the resume set names a cue that is HELD and one that is not. -/
def resuming : State :=
  { starting .held with
    config := { Items.factory with startPolicy := .resumeSet, startCue := 0 }, resumeSet := [1, 2] }

theorem wit_EntryToRunning_resumes :
    resuming.stage = .settling 0 ∧ (∀ id ∈ playIds, resuming.play id = none) ∧ resuming.fallbackOn = false ∧
      resuming.watchdog = none ∧ (resuming.enterRunning.play 1).map (·.source) = some .start ∧
      resuming.enterRunning.lastRefusal = some ⟨2, .start, .noCue, 0⟩ ∧
      (let s := { starting .held with config := { Items.factory with startPolicy := .startCue, startCue := 0 } }
       s.config.startPolicy = .startCue ∧ s.enterRunning.plays = s.plays) := by decide +kernel

theorem wit_Levels :
    (playIn .ramp).phase.beforeFade = true ∧ (cue .release).scaleOf 1 = some 255 ∧ driving.owner 1 = some 1 ∧
      driving.config.derate ≤ 256 ∧ driving.stage = .running ∧ driving.thermal.state = .normal ∧
      driving.outputLevel 1 .normal = 32 ∧ driving.outputLevel 1 .tripped = 0 ∧ driving.outputLevel 2 .normal = 0 ∧
      { driving with thermal := { driving.thermal with state := .warn } }.outputLevel 1 .normal = 20 ∧
      { driving with thermal := { driving.thermal with state := .shutdown } }.outputLevel 1 .normal = 0 ∧ (playIn (.fadeout [⟨1, 16⟩] 0)).phase = .fadeout [⟨1, 16⟩] 0 := by decide +kernel

/-- What steps keep holds in a state that plays, and that state steps. -/
theorem wit_kept_levels_and_channels : LevelsFollowTheOwners driving ∧ ChannelsKept driving ∧ ClaimsKept driving :=
  ⟨by decide, by decide, by decide⟩

theorem wit_kept_claims : HeldKept driving ∧ WatchdogKept driving := by decide +kernel

theorem wit_kept_plays : FallbackKept (inFallback .ramp) ∧ ClaimsKept (inFallback .ramp) ∧ RetiringKept driving := by decide +kernel

theorem wit_kept_inputs :
    PatternsKept (wired .low (some 0)) ∧ WindowsKept (wired .low (some 0)) ∧ WatchdogKept idleState ∧
      ThermalKept idleState ∧ EventSetsKept idleState ∧ ResumeKept idleState := by decide +kernel

/-- A part held in reset meets what the other kept properties ask for. -/
theorem wit_kept_held :
    HeldKept driving ∧ HeldKept { State.reset with rstnLow := true, stage := .held } ∧
      HeldKept { wired .low (some 0) with watchdog := none } := by decide +kernel

theorem wit_kept_lines :
    LinesKept { wired .low (some 0) with lines := put1 State.reset.lines 1 ⟨.low, some .high, some 0⟩ } := by decide +kernel

theorem wit_it_steps :
    (∃ t, step State.reset = .next t) ∧ (∃ t, step { driving with pending := [.thaw (.link 1) []] } = .next t) ∧
      ∃ t, step { wired .low (some 0) with pending := [.debounceExpiry 1] } = .next t :=
  ⟨⟨_, rfl⟩, ⟨_, rfl⟩, ⟨_, rfl⟩⟩

end Sys2Proof.Tests
end

section
/-! The curves (03 R65). -/

namespace Sys2Proof.Machine

/-! ## The formulas, one per curve, and their forms in lowest terms -/

theorem curveValue_linear (s : Nat) : curveValue .linear s = 4095 * s / 255 := rfl

theorem curveValue_square (s : Nat) : curveValue .square s = 4095 * s ^ 2 / 65025 := rfl

theorem curveValue_cube (s : Nat) : curveValue .cube s = 4095 * s ^ 3 / 16581375 := rfl

theorem curveValue_switch (s : Nat) : curveValue .switch s = if s < 128 then 0 else 4095 := rfl

/-- 255 divides 4080 = 16 × 255, and what is left of 4095 is 15 = 255 / 17. -/
theorem curveValue_linear_lowest_terms (s : Nat) : curveValue .linear s = 16 * s + s / 17 := by
  rw [curveValue_linear]
  omega

/-- A numerator and a denominator that share the factor 45, as those of SQUARE and CUBE do. -/
theorem div_lowest_terms_45 (x d : Nat) : 4095 * x / (45 * d) = 91 * x / d := by
  calc 4095 * x / (45 * d) = 45 * (91 * x) / (45 * d) := by rw [← Nat.mul_assoc]
    _ = 91 * x / d := Nat.mul_div_mul_left _ _ (by decide)

theorem curveValue_square_lowest_terms (s : Nat) : curveValue .square s = 91 * s ^ 2 / 1445 :=
  div_lowest_terms_45 (s ^ 2) 1445

theorem curveValue_cube_lowest_terms (s : Nat) : curveValue .cube s = 91 * s ^ 3 / 368475 :=
  div_lowest_terms_45 (s ^ 3) 368475

/-! ## The two ends, and the order between them -/

@[simp] theorem curveValue_first_step (c : Curve) : curveValue c 0 = 0 := by cases c <;> rfl

@[simp] theorem curveValue_last_step (c : Curve) : curveValue c 255 = 4095 := by cases c <;> rfl

/-- A curve value never falls as the step rises: the quotients rise with the powers of the step, and SWITCH goes from 0 to
4095 once. -/
theorem curveValue_mono (c : Curve) {a b : Nat} (h : a ≤ b) : curveValue c a ≤ curveValue c b := by
  have quotient_mono (k d : Nat) : 4095 * a ^ k / d ≤ 4095 * b ^ k / d :=
    Nat.div_le_div_right (Nat.mul_le_mul_left _ (Nat.pow_le_pow_left h k))
  cases c with
  | linear => simpa only [curveValue_linear, Nat.pow_one] using quotient_mono 1 255
  | square => exact quotient_mono 2 65025
  | cube => exact quotient_mono 3 16581375
  | switch =>
    rw [curveValue_switch, curveValue_switch]
    split_ifs <;> omega

theorem curveValue_le_4095 (c : Curve) {s : Nat} (h : s ≤ 255) : curveValue c s ≤ 4095 :=
  calc curveValue c s ≤ curveValue c 255 := curveValue_mono c h
    _ = 4095 := curveValue_last_step c

/-- 15 is the last step at which 91 × s³ is below 368475. -/
theorem curveValue_cube_dark {s : Nat} (h : s ≤ 15) : curveValue .cube s = 0 :=
  Nat.eq_zero_of_le_zero <|
    calc curveValue .cube s ≤ curveValue .cube 15 := curveValue_mono .cube h
      _ = 0 := rfl

/-! ## The level reads the step through the curve value alone (03 R66) -/

theorem levelAt_of_scaleOf_none {r : CueRecord} {c : Nat} (h : r.scaleOf c = none) (step : Byte) :
    r.levelAt step c = 0 := by
  simp only [CueRecord.levelAt, h]

theorem levelAt_of_scaleOf_some {r : CueRecord} {c : Nat} {scale : Byte} (h : r.scaleOf c = some scale) (step : Byte) :
    r.levelAt step c = scaledLevel (curveValue r.curve step.toNat) scale.toNat r.trim.toNat := by
  simp only [CueRecord.levelAt, h]

theorem levelAt_congr_curveValue (r : CueRecord) {a b : Byte} (c : Nat)
    (h : curveValue r.curve a.toNat = curveValue r.curve b.toNat) : r.levelAt a c = r.levelAt b c := by
  cases named : r.scaleOf c with
  | none => rw [levelAt_of_scaleOf_none named, levelAt_of_scaleOf_none named]
  | some scale => rw [levelAt_of_scaleOf_some named, levelAt_of_scaleOf_some named, h]

/-- Settles O50: each curve's formula with its form in lowest terms, then the two ends with the order between them; CUBE's
dark steps lie below a step that gives 0, and a level reads the step through the curve value alone. -/
theorem curveValuesFollowTheirFormulas : Obligations.CurveValuesFollowTheirFormulas := by
  refine ⟨fun s _ => ?formulas, fun c => ⟨curveValue_first_step c, curveValue_last_step c, ?order⟩,
    fun _ => curveValue_cube_dark, fun r _ _ c => levelAt_congr_curveValue r c⟩
  case formulas =>
    have switch_split : curveValue .switch s = if s ≤ 127 then 0 else 4095 := by
      simp only [curveValue_switch, Nat.lt_succ_iff]
    exact ⟨curveValue_linear s, curveValue_linear_lowest_terms s, curveValue_square s, curveValue_square_lowest_terms s,
      curveValue_cube s, curveValue_cube_lowest_terms s, switch_split⟩
  case order => exact fun a b hab hb => ⟨curveValue_mono c hab, curveValue_le_4095 c hb⟩

end Sys2Proof.Machine
end

section
/-! The admission check: the verdict on one channel, the marks, and the check over the whole list (04 R83, R84, R91). -/

namespace Sys2Proof.Machine

/-! ## A play marked at most once (04 R84) -/

/-- One more play among the marked ones, at the end if it is not marked yet. -/
def markOnce (marks : List Nat) (id : Nat) : List Nat := if id ∈ marks then marks else marks ++ [id]

theorem mem_markOnce {marks : List Nat} {id e : Nat} : e ∈ markOnce marks id ↔ e ∈ marks ∨ e = id := by
  unfold markOnce
  split
  case isTrue marked => exact (or_iff_left_of_imp (· ▸ marked)).symm
  case isFalse => simp

theorem nodup_markOnce {marks : List Nat} (h : marks.Nodup) (id : Nat) : (markOnce marks id).Nodup := by
  unfold markOnce
  split
  case isTrue => exact h
  case isFalse unmarked => exact List.nodup_append_comm.mp (List.nodup_cons.mpr ⟨unmarked, h⟩)

theorem mem_foldl_markOnce {ids marks : List Nat} {e : Nat} : e ∈ ids.foldl markOnce marks ↔ e ∈ marks ∨ e ∈ ids := by
  induction ids generalizing marks with
  | nil => simp
  | cons id ids ih => rw [List.foldl_cons, ih, mem_markOnce, List.mem_cons, or_assoc]

theorem nodup_foldl_markOnce (ids : List Nat) {marks : List Nat} (h : marks.Nodup) : (ids.foldl markOnce marks).Nodup := by
  induction ids generalizing marks with
  | nil => exact h
  | cons id ids ih => exact ih (nodup_markOnce h id)

/-! ## One channel -/

/-- The verdict on one channel: fewer than six claims, or a last claim strictly below the priority asked for (04 R83). -/
def State.channelPasses (s : State) (priority : Nat) (absent : Option Nat) (c : Nat) : Bool :=
  decide ((s.judgedList absent c).length < 6) ||
    (s.judgedList absent c).getLast?.any fun e => decide (s.priorityOf e < priority)

/-- The play that the last claim of a full list names (04 R83). -/
def State.lastOfFull (s : State) (absent : Option Nat) (c : Nat) : Option Nat :=
  if 6 ≤ (s.judgedList absent c).length then (s.judgedList absent c).getLast? else none

theorem channelPasses_iff (s : State) (priority : Nat) (absent : Option Nat) (c : Nat) :
    s.channelPasses priority absent c = true ↔
      (s.judgedList absent c).length < 6 ∨ ∃ e, (s.judgedList absent c).getLast? = some e ∧ s.priorityOf e < priority := by
  simp [State.channelPasses, Option.any_eq_true]

theorem lastOfFull_eq_some_iff (s : State) (absent : Option Nat) (c e : Nat) :
    s.lastOfFull absent c = some e ↔ 6 ≤ (s.judgedList absent c).length ∧ (s.judgedList absent c).getLast? = some e := by
  simp [State.lastOfFull]

/-- The marks are exactly the plays that last claims of full lists name (04 R83). -/
theorem mem_marks_iff (s : State) (cs : List Nat) (absent : Option Nat) (e : Nat) :
    e ∈ (cs.filterMap (s.lastOfFull absent)).foldl markOnce [] ↔
      ∃ c ∈ cs, 6 ≤ (s.judgedList absent c).length ∧ (s.judgedList absent c).getLast? = some e := by
  simp only [mem_foldl_markOnce, List.mem_filterMap, lastOfFull_eq_some_iff, List.not_mem_nil, false_or]

/-- No claim counts as absent outside the chain variant. -/
theorem judgedList_none (s : State) (c : Nat) : s.judgedList none c = s.claimList c :=
  List.filter_eq_self.mpr fun _ _ => rfl

/-! ## The check visits one channel after the other -/

/-- At a channel that passes, the check marks the last play of a full list and goes on. -/
theorem checkFrom_cons_of_passes {s : State} {priority : Nat} {absent : Option Nat} {c : Nat}
    (h : s.channelPasses priority absent c = true) (cs marks : List Nat) :
    s.checkFrom priority absent (c :: cs) marks =
      s.checkFrom priority absent cs ((s.lastOfFull absent c).toList.foldl markOnce marks) := by
  by_cases room : (s.judgedList absent c).length < 6
  · simp [State.checkFrom, State.lastOfFull, Config.claimLimit, room, Nat.not_le.mpr room]
  · obtain ⟨e, last, below⟩ := ((channelPasses_iff s priority absent c).mp h).resolve_left room
    simp [State.checkFrom, State.lastOfFull, markOnce, Config.claimLimit, room, last, below, Nat.not_lt.mp room]

theorem checkFrom_cons_of_not_passes {s : State} {priority : Nat} {absent : Option Nat} {c : Nat}
    (h : s.channelPasses priority absent c = false) (cs marks : List Nat) :
    s.checkFrom priority absent (c :: cs) marks = .fails c := by
  obtain ⟨full, none_below⟩ := not_or.mp (mt (channelPasses_iff s priority absent c).mpr (ne_true_of_eq_false h))
  cases last : (s.judgedList absent c).getLast? with
  | none => simp [List.getLast?_eq_none_iff.mp last] at full
  | some e =>
    have not_below : ¬s.priorityOf e < priority := fun below => none_below ⟨e, last, below⟩
    simp [State.checkFrom, Config.claimLimit, full, last, not_below]

theorem checkFrom_of_all_pass {s : State} {priority : Nat} {absent : Option Nat} {cs : List Nat}
    (h : ∀ c ∈ cs, s.channelPasses priority absent c = true) (marks : List Nat) :
    s.checkFrom priority absent cs marks = .admits ((cs.filterMap (s.lastOfFull absent)).foldl markOnce marks) := by
  induction cs generalizing marks with
  | nil => rfl
  | cons c cs ih =>
    obtain ⟨here, later⟩ := List.forall_mem_cons.mp h
    rw [checkFrom_cons_of_passes here, ih later, ← List.foldl_append, List.filterMap_cons]
    cases s.lastOfFull absent c <;> rfl

theorem checkFrom_of_first_failing {s : State} {priority : Nat} {absent : Option Nat} {before : List Nat} {c : Nat}
    (h : ∀ d ∈ before, s.channelPasses priority absent d = true) (hc : s.channelPasses priority absent c = false)
    (after marks : List Nat) : s.checkFrom priority absent (before ++ c :: after) marks = .fails c := by
  induction before generalizing marks with
  | nil => exact checkFrom_cons_of_not_passes hc after marks
  | cons d before ih =>
    obtain ⟨here, later⟩ := List.forall_mem_cons.mp h
    rw [List.cons_append, checkFrom_cons_of_passes here, ih later]

/-! ## The verdict of the whole check -/

/-- Either every channel passes or there is a first one that does not. -/
theorem all_pass_or_first_failing (s : State) (priority : Nat) (absent : Option Nat) (cs : List Nat) :
    (∀ c ∈ cs, s.channelPasses priority absent c = true) ∨
      ∃ before c after, cs = before ++ c :: after ∧ (∀ d ∈ before, s.channelPasses priority absent d = true) ∧
        s.channelPasses priority absent c = false := by
  cases found : cs.find? fun c => !s.channelPasses priority absent c with
  | none => exact .inl (by simpa using found)
  | some c =>
    obtain ⟨hc, before, after, cut, passed⟩ := List.find?_eq_some_iff_append.mp found
    exact .inr ⟨before, c, after, cut, by simpa using passed, by simpa using hc⟩

theorem admissionCheck_admits_iff (s : State) (cs : List Nat) (priority : Nat) (absent : Option Nat) (marks : List Nat) :
    s.admissionCheck cs priority absent = .admits marks ↔
      (∀ c ∈ cs, s.channelPasses priority absent c = true) ∧
        marks = (cs.filterMap (s.lastOfFull absent)).foldl markOnce [] := by
  constructor
  · intro admits
    rcases all_pass_or_first_failing s priority absent cs with pass | ⟨before, c, after, rfl, passed, hc⟩
    · exact ⟨pass, Verdict.admits.inj (admits.symm.trans (checkFrom_of_all_pass pass []))⟩
    · cases admits.symm.trans (checkFrom_of_first_failing passed hc after [])
  · rintro ⟨pass, rfl⟩
    exact checkFrom_of_all_pass pass []

theorem admissionCheck_fails_iff (s : State) (cs : List Nat) (priority : Nat) (absent : Option Nat) (c : Nat) :
    s.admissionCheck cs priority absent = .fails c ↔
      ∃ before after, cs = before ++ c :: after ∧ (∀ d ∈ before, s.channelPasses priority absent d = true) ∧
        s.channelPasses priority absent c = false := by
  constructor
  · intro fails
    rcases all_pass_or_first_failing s priority absent cs with pass | ⟨before, d, after, rfl, passed, hd⟩
    · cases fails.symm.trans (checkFrom_of_all_pass pass [])
    · obtain rfl := Verdict.fails.inj (fails.symm.trans (checkFrom_of_first_failing passed hd after []))
      exact ⟨before, after, rfl, passed, hd⟩
  · rintro ⟨before, after, rfl, passed, hc⟩
    exact checkFrom_of_first_failing passed hc after []

/-- Settles O19: the check fails at the first channel that does not pass and else marks, once each and in the order of the
channels, the plays that the last claims of the full lists name. -/
theorem admissionCheckJudgesTheLastClaimOfFullLists : Obligations.AdmissionCheckJudgesTheLastClaimOfFullLists := by
  intro s cs p absent judged passes
  have passes_iff (c : Nat) : passes c ↔ s.channelPasses p absent c = true := (channelPasses_iff s p absent c).symm
  refine ⟨?unchained, fun c => ?fails, ?admits, fun marks admits => ?marks⟩
  case unchained =>
    rintro rfl c
    exact judgedList_none s c
  case fails => simp only [admissionCheck_fails_iff, passes_iff, Bool.not_eq_true]
  case admits => simp only [admissionCheck_admits_iff, passes_iff, exists_and_left, exists_eq, and_true]
  case marks =>
    obtain ⟨-, rfl⟩ := (admissionCheck_admits_iff s cs p absent marks).mp admits
    exact ⟨nodup_foldl_markOnce _ List.nodup_nil, mem_marks_iff s cs absent, rfl⟩

end Sys2Proof.Machine
end

section
/-! What the records, the slots and the claim lists read after each operation of the Play Engine and the Claim Arbiter. -/

namespace Sys2Proof.Machine

/-! ## Slots -/

/-- A number outside 1..64 names no slot, and reads as a FREE one. -/
theorem slot_outside (s : State) {n : Nat} (h : ¬(1 ≤ n ∧ n ≤ 64)) : s.slot n = Slot.factory := by
  have nothing : at1 s.slots n = none := by rw [← Option.not_isSome_iff_eq_none, at1_isSome_iff]; exact h
  simp [State.slot, nothing]

theorem in_range_of_status {s : State} {n : Nat} (h : (s.slot n).status ≠ .free) : 1 ≤ n ∧ n ≤ 64 := by
  by_contra out
  exact h (by rw [slot_outside s out]; rfl)

theorem slot_setSlot (s : State) (n m : Nat) (x : Slot) :
    (s.setSlot n x).slot m = if m = n ∧ 1 ≤ n ∧ n ≤ 64 then x else s.slot m := by
  by_cases hm : m = n
  · subst hm
    by_cases range : 1 ≤ m ∧ m ≤ 64
    · simp [slot_setSlot_same s m x range, range]
    · rw [slot_outside _ range, slot_outside _ range, if_neg (fun both => range both.2)]
  · simp [slot_setSlot_other s n m x hm, hm]

/-- Where a play ends, the slot of its cue becomes FREE if it was RETIRING, and every other slot stands (01 R25). -/
theorem slot_freeIfRetiring (s : State) (cue n : Nat) :
    (s.freeIfRetiring cue).slot n = if n = cue ∧ (s.slot n).status = .retiring then (s.slot n).freed else s.slot n := by
  unfold State.freeIfRetiring
  by_cases retiring : (s.slot cue).status = .retiring
  · have range := in_range_of_status (s := s) (n := cue) (by rw [retiring]; decide)
    rw [if_pos retiring, slot_setSlot]
    by_cases hn : n = cue
    · subst hn; simp [range, retiring]
    · simp [hn]
  · rw [if_neg retiring]
    by_cases hn : n = cue
    · subst hn; simp [retiring]
    · simp [hn]

/-! ## Play records and the plays of cues -/

theorem play_setPlay (s : State) (id j : Nat) (x : Option Play) (h : 1 ≤ id ∧ id ≤ 24) :
    (s.setPlay id x).play j = if j = id then x else s.play j := by
  by_cases hj : j = id
  · subst hj; rw [if_pos rfl, play_setPlay_same s j x h]
  · rw [if_neg hj, play_setPlay_other s id j x hj]

theorem play_setPlay_of_play {s : State} {id : Nat} {p : Play} (hp : s.play id = some p) (j : Nat) (x : Option Play) :
    (s.setPlay id x).play j = if j = id then x else s.play j := play_setPlay s id j x (id_of_play s id p hp)

/-- The play of a cue stands in its record and names that cue (02 R27). -/
theorem playOf_some {s : State} {cue id : Nat} (h : s.playOf cue = some id) :
    id ∈ playIds ∧ ∃ p, s.play id = some p ∧ p.cue = cue := by
  refine ⟨List.mem_of_find?_eq_some h, ?_⟩
  have found := List.find?_some h
  simpa [Option.any_eq_true] using found

theorem cue_of_playOf {s : State} {cue id : Nat} {p : Play} (h : s.playOf cue = some id) (hp : s.play id = some p) :
    p.cue = cue := by
  obtain ⟨-, q, hq, hcue⟩ := playOf_some h
  rw [← Option.some.inj (hp.symm.trans hq)] at hcue
  exact hcue

theorem playOf_none_iff {s : State} {cue : Nat} : s.playOf cue = none ↔ ∀ id p, s.play id = some p → p.cue ≠ cue := by
  simp only [State.playOf, List.find?_eq_none, Option.any_eq_true, not_exists, not_and, beq_iff_eq]
  exact ⟨fun h id p hp => h id ((mem_playIds id).mpr (id_of_play s id p hp)) p hp, fun h id _ p hp => h id p hp⟩

theorem playOf_isSome_iff {s : State} {cue : Nat} :
    (s.playOf cue).isSome = true ↔ ∃ id p, s.play id = some p ∧ p.cue = cue := by
  rw [← Option.ne_none_iff_isSome, ne_eq, playOf_none_iff]
  push Not
  rfl

/-- The lowest free id is one of 1..23, and no play holds it (02 R28). -/
theorem lowestFreeId_spec {s : State} {id : Nat} (h : s.lowestFreeId = some id) :
    1 ≤ id ∧ id ≤ 23 ∧ s.play id = none := by
  have free := List.find?_some h
  have mem := List.mem_range'_1.mp (List.mem_of_find?_eq_some h)
  exact ⟨mem.1, by omega, Option.isNone_iff_eq_none.mp free⟩

theorem priorityOf_of_play {s : State} {id : Nat} {p : Play} (hp : s.play id = some p) : s.priorityOf id = p.priority := by
  simp [State.priorityOf, hp]

/-! ## The end of a play -/

theorem endPlay_of_play {s : State} {id : Nat} {p : Play} (hp : s.play id = some p) :
    s.endPlay id = ((s.setPlay id none).removeClaims id).freeIfRetiring p.cue := by
  unfold State.endPlay; rw [hp]

theorem endPlay_of_none {s : State} {id : Nat} (hp : s.play id = none) : s.endPlay id = s := by
  unfold State.endPlay; rw [hp]

theorem freeIfRetiring_plays (s : State) (cue : Nat) : (s.freeIfRetiring cue).plays = s.plays := by
  unfold State.freeIfRetiring; split <;> rfl

theorem freeIfRetiring_claims (s : State) (cue : Nat) : (s.freeIfRetiring cue).claims = s.claims := by
  unfold State.freeIfRetiring; split <;> rfl

theorem sameEvents_freeIfRetiring (s : State) (cue : Nat) : SameEvents s (s.freeIfRetiring cue) := by
  unfold State.freeIfRetiring; split <;> exact ⟨rfl, rfl, rfl⟩

/-- After the end of a play its record is empty, and every other one stands. -/
theorem play_endPlay_all (s : State) (id j : Nat) : (s.endPlay id).play j = if j = id then none else s.play j := by
  cases hp : s.play id with
  | none => rw [endPlay_of_none hp]; split <;> simp_all
  | some p =>
    rw [endPlay_of_play hp, State.play, freeIfRetiring_plays]
    exact play_setPlay_of_play hp j none

theorem play_endPlay_other (s : State) {id j : Nat} (h : j ≠ id) : (s.endPlay id).play j = s.play j := by
  rw [play_endPlay_all, if_neg h]

theorem claimList_removeClaims (s : State) (id c : Nat) :
    (s.removeClaims id).claimList c = (s.claimList c).filter (· != id) := by
  cases h : at1 s.claims c <;> simp [State.claimList, h]

theorem claimList_endPlay {s : State} {id : Nat} {p : Play} (hp : s.play id = some p) (c : Nat) :
    (s.endPlay id).claimList c = (s.claimList c).filter (· != id) := by
  rw [endPlay_of_play hp, State.claimList, freeIfRetiring_claims]
  exact claimList_removeClaims s id c

theorem slot_endPlay {s : State} {id : Nat} {p : Play} (hp : s.play id = some p) (n : Nat) :
    (s.endPlay id).slot n =
      if n = p.cue ∧ (s.slot n).status = .retiring then (s.slot n).freed else s.slot n := by
  rw [endPlay_of_play hp]
  exact slot_freeIfRetiring _ p.cue n

theorem sameEvents_endPlay (s : State) (id : Nat) : SameEvents s (s.endPlay id) := by
  cases hp : s.play id with
  | none => rw [endPlay_of_none hp]; exact ⟨rfl, rfl, rfl⟩
  | some p => rw [endPlay_of_play hp]; exact sameEvents_freeIfRetiring _ p.cue

/-- The end of a play makes no slot RETIRING. -/
theorem status_endPlay_ne_retiring {s : State} {id n : Nat} (h : (s.slot n).status ≠ .retiring) :
    ((s.endPlay id).slot n).status ≠ .retiring := by
  cases hp : s.play id with
  | none => rw [endPlay_of_none hp]; exact h
  | some p => rw [slot_endPlay hp, if_neg (fun both => h both.2)]; exact h

/-! ## Evictions -/

theorem evict_of_play {s : State} {id : Nat} {p : Play} (hp : s.play id = some p) (n : Nat) :
    s.evict n id = (s.endPlay id).raiseEviction ⟨p.cue, n⟩ := by
  unfold State.evict; rw [hp]

theorem evict_of_none {s : State} {id : Nat} (hp : s.play id = none) (n : Nat) : s.evict n id = s := by
  unfold State.evict; rw [hp]

@[simp] theorem evictAll_nil (s : State) (n : Nat) : s.evictAll n [] = s := rfl

@[simp] theorem evictAll_cons (s : State) (n id : Nat) (marks : List Nat) :
    s.evictAll n (id :: marks) = (s.evict n id).evictAll n marks := rfl

theorem play_evict (s : State) (n id j : Nat) : (s.evict n id).play j = if j = id then none else s.play j := by
  cases hp : s.play id with
  | none => rw [evict_of_none hp]; split <;> simp_all
  | some p => rw [evict_of_play hp]; exact play_endPlay_all s id j

theorem play_evictAll (s : State) (n : Nat) (marks : List Nat) (j : Nat) :
    (s.evictAll n marks).play j = if j ∈ marks then none else s.play j := by
  induction marks generalizing s with
  | nil => simp
  | cons id marks ih =>
    rw [evictAll_cons, ih, play_evict]
    by_cases hj : j = id <;> simp [hj]

/-- Slots become FREE when a play ends and they were RETIRING, whether by one eviction or more. -/
theorem slot_evict (s : State) (n id m : Nat) : (s.evict n id).slot m =
    if (s.slot m).status = .retiring ∧ (s.play id).any (·.cue == m) = true then (s.slot m).freed else s.slot m := by
  cases hp : s.play id with
  | none => rw [evict_of_none hp]; simp
  | some p =>
    rw [evict_of_play hp]
    refine (slot_endPlay hp m).trans ?_
    have same : (m = p.cue ∧ (s.slot m).status = .retiring) ↔ (s.slot m).status = .retiring ∧ (p.cue == m) = true := by
      rw [beq_iff_eq, and_comm, eq_comm (a := m)]
    simp only [Option.any_some, same]

theorem slot_evictAll (s : State) (n : Nat) (marks : List Nat) (m : Nat) : (s.evictAll n marks).slot m =
    if (s.slot m).status = .retiring ∧ marks.any (fun e => (s.play e).any (·.cue == m)) = true then (s.slot m).freed
    else s.slot m := by
  induction marks generalizing s with
  | nil => simp
  | cons id marks ih =>
    rw [evictAll_cons, ih, slot_evict]
    by_cases hit : (s.slot m).status = .retiring ∧ (s.play id).any (·.cue == m) = true
    · rw [if_pos hit, if_neg (by simp [Slot.freed]), if_pos (by simp [hit])]
    · rw [if_neg hit]
      by_cases retiring : (s.slot m).status = .retiring
      · have others : marks.any (fun e => ((s.evict n id).play e).any (·.cue == m)) =
            marks.any (fun e => (s.play e).any (·.cue == m)) := by
          congr 1
          funext e
          rw [play_evict]
          by_cases he : e = id
          · subst he; simpa [retiring] using hit
          · simp [he]
        have this_one : (s.play id).any (·.cue == m) = false := by simpa [retiring] using hit
        simp [others, this_one, retiring]
      · simp [retiring]

theorem claimList_evict {s : State} {id : Nat} {p : Play} (hp : s.play id = some p) (n c : Nat) :
    (s.evict n id).claimList c = (s.claimList c).filter (· != id) := by
  rw [evict_of_play hp]; exact claimList_endPlay hp c

/-- The marked plays' claims leave every list; the rest keep their order (04 R96). -/
theorem claimList_evictAll {s : State} {marks : List Nat} (plays : ∀ e ∈ marks, (s.play e).isSome = true)
    (nodup : marks.Nodup) (n c : Nat) :
    (s.evictAll n marks).claimList c = (s.claimList c).filter fun j => decide (j ∉ marks) := by
  induction marks generalizing s with
  | nil => simp
  | cons id marks ih =>
    obtain ⟨fresh, nodup⟩ := List.nodup_cons.mp nodup
    obtain ⟨here, later⟩ := List.forall_mem_cons.mp plays
    obtain ⟨p, hp⟩ := Option.isSome_iff_exists.mp here
    have later' : ∀ e ∈ marks, ((s.evict n id).play e).isSome = true := fun e he => by
      rw [play_evict, if_neg (by rintro rfl; exact fresh he)]; exact later e he
    rw [evictAll_cons, ih later' nodup, claimList_evict hp, List.filter_filter]
    congr 1
    funext j
    by_cases hj : j = id <;> simp [hj]

theorem eviction_flag_again (f : EventSet) : f ||| 0x0004 ||| 0x0004 = f ||| 0x0004 := by
  rw [BitVec.or_assoc, BitVec.or_self]

theorem lastRefusal_evictAll (s : State) (n : Nat) (marks : List Nat) :
    (s.evictAll n marks).lastRefusal = s.lastRefusal := by
  induction marks generalizing s with
  | nil => rfl
  | cons id marks ih =>
    rw [evictAll_cons, ih]
    cases hp : s.play id with
    | none => rw [evict_of_none hp]
    | some p => rw [evict_of_play hp]; exact (sameEvents_endPlay s id).2.1

/-- Every eviction raises EVICTION, and the record names the last one (04 R86, 11 R187). -/
theorem events_evictAll {s : State} {marks : List Nat} (plays : ∀ e ∈ marks, (s.play e).isSome = true)
    (nodup : marks.Nodup) (n : Nat) {e : Nat} {p : Play} (last : marks.getLast? = some e) (hp : s.play e = some p) :
    (s.evictAll n marks).flags = s.flags ||| 0x0004 ∧ (s.evictAll n marks).lastEviction = some ⟨p.cue, n⟩ := by
  induction marks generalizing s with
  | nil => simp at last
  | cons id marks ih =>
    obtain ⟨fresh, nodup⟩ := List.nodup_cons.mp nodup
    obtain ⟨here, later⟩ := List.forall_mem_cons.mp plays
    obtain ⟨q, hq⟩ := Option.isSome_iff_exists.mp here
    have flags : (s.evict n id).flags = s.flags ||| 0x0004 := by
      rw [evict_of_play hq]
      exact congrArg (· ||| (0x0004 : EventSet)) (sameEvents_endPlay s id).1
    rw [evictAll_cons]
    cases marks with
    | nil =>
      obtain rfl : id = e := by simpa using last
      obtain rfl := Option.some.inj (hq.symm.trans hp)
      exact ⟨flags, by rw [evictAll_nil, evict_of_play hq]; rfl⟩
    | cons m marks =>
      have he : e ∈ m :: marks := List.mem_of_getLast? (by simpa using last)
      have he' : e ≠ id := by rintro rfl; exact fresh he
      have later' : ∀ j ∈ m :: marks, ((s.evict n id).play j).isSome = true := fun j hj => by
        rw [play_evict, if_neg (by rintro rfl; exact fresh hj)]; exact later j hj
      obtain ⟨hf, hr⟩ := ih later' nodup (by simpa using last) (by rw [play_evict, if_neg he']; exact hp)
      exact ⟨by rw [hf, flags, eviction_flag_again], hr⟩

/-! ## Arrivals -/

theorem claimList_outside (s : State) {c : Nat} (h : c ∉ channelIds) : s.claimList c = [] := by
  have nothing : at1 s.claims c = none := by
    rw [← Option.not_isSome_iff_eq_none, at1_isSome_iff, ← mem_channelIds]; exact h
  simp [State.claimList, nothing]

theorem arrive_plays (s : State) (id : Nat) : (s.arrive id).plays = s.plays := by
  unfold State.arrive; split <;> rfl

theorem arrive_slots (s : State) (id : Nat) : (s.arrive id).slots = s.slots := by
  unfold State.arrive; split <;> rfl

theorem sameEvents_arrive (s : State) (id : Nat) : SameEvents s (s.arrive id) := by
  unfold State.arrive; split <;> exact ⟨rfl, rfl, rfl⟩

@[simp] theorem play_arrive (s : State) (id j : Nat) : (s.arrive id).play j = s.play j := by
  simp [State.play, arrive_plays]

@[simp] theorem slot_arrive (s : State) (id n : Nat) : (s.arrive id).slot n = s.slot n := by
  simp [State.slot, arrive_slots]

@[simp] theorem priorityOf_arrive (s : State) (id j : Nat) : (s.arrive id).priorityOf j = s.priorityOf j := by
  simp [State.priorityOf]

/-- On a channel of its cue the claim of record `id` is placed at the head of its band, and no other list changes (04 R81). -/
theorem claimList_arrive {s : State} {id : Nat} {p : Play} (hp : s.play id = some p) {c : Nat} (hc : c ∈ channelIds) :
    (s.arrive id).claimList c =
      if c ∈ (s.recordOf p).channelNumbers then
        place (fun j => decide (p.priority < s.priorityOf j)) id ((s.claimList c).filter (· != id))
      else s.claimList c := by
  obtain ⟨l, hl⟩ := Option.isSome_iff_exists.mp ((at1_isSome_iff s.claims c).mpr ((mem_channelIds c).mp hc))
  unfold State.arrive
  rw [hp]
  simp only [State.claimList, at1_mapBank1, hl, Option.map_some, Option.getD_some, List.contains_iff_mem]

/-! ## A record filled -/

/-- A restart fills the play's record anew for its own cue (02 R54). -/
theorem restart_eq_fillRecord {s : State} {id : Nat} {p : Play} (hp : s.play id = some p) (source : Source)
    (priority : Nat) : s.restart id source priority = s.fillRecord id p.cue source priority := by
  unfold State.restart; rw [hp]; rfl

theorem fillRecord_slots (s : State) (id cue : Nat) (source : Source) (priority : Nat) :
    (s.fillRecord id cue source priority).slots = s.slots := arrive_slots _ _

@[simp] theorem slot_fillRecord (s : State) (id cue n : Nat) (source : Source) (priority : Nat) :
    (s.fillRecord id cue source priority).slot n = s.slot n := slot_arrive _ _ _

theorem sameEvents_fillRecord (s : State) (id cue : Nat) (source : Source) (priority : Nat) :
    SameEvents s (s.fillRecord id cue source priority) := sameEvents_arrive _ _

theorem play_fillRecord (s : State) {id : Nat} (range : 1 ≤ id ∧ id ≤ 24) (cue : Nat) (source : Source) (priority j : Nat) :
    (s.fillRecord id cue source priority).play j =
      if j = id then some ((s.slot cue).record.begin cue source priority) else s.play j := by
  rw [State.fillRecord, play_arrive, play_setPlay _ _ _ _ range]

theorem claimList_fillRecord (s : State) {id : Nat} (range : 1 ≤ id ∧ id ≤ 24) (cue : Nat) (source : Source)
    (priority : Nat) {c : Nat} (hc : c ∈ channelIds) :
    (s.fillRecord id cue source priority).claimList c =
      if c ∈ (s.slot cue).record.channelNumbers then
        place (fun j => decide (priority < (s.fillRecord id cue source priority).priorityOf j)) id
          ((s.claimList c).filter (· != id))
      else s.claimList c := by
  have hp : (s.setPlay id (some ((s.slot cue).record.begin cue source priority))).play id =
      some ((s.slot cue).record.begin cue source priority) := play_setPlay_same s id _ range
  simp only [State.fillRecord, priorityOf_arrive]
  exact claimList_arrive hp hc

end Sys2Proof.Machine
end

section
/-! What the Play Engine and the Claim Arbiter can do, said once: every one of their operations is a run of play acts. -/

namespace Sys2Proof.Machine

/-! ## The play acts -/

/-- A priority that a trigger or a chain can give an ordinary play: an override 0..15, or that of a record (02 R30, R34). -/
def State.GivesPriority (s : State) (priority : Nat) : Prop :=
  priority ≤ 15 ∨ ∃ n, priority = (s.slot n).record.priority

/-- What a restart of the play `p` in record `id` can give it (02 R31, R44, R53, 07 R152): the pending restart keeps its
source, a trigger or a chain gives an ordinary play another, and the fallback play stays what it is. -/
inductive MayRestart (s : State) (id : Nat) (p : Play) : Source → Nat → Prop
  | pending {priority : Nat} : p.pendingRestart = true → s.GivesPriority priority → MayRestart s id p p.source priority
  | ordinary {source : Source} {priority : Nat} :
    p.source ≠ .fallback → source ≠ .fallback → s.GivesPriority priority → MayRestart s id p source priority
  | chained : p.source = .fallback → p.phase.beforeFade = true → MayRestart s id p .fallback 16
  | entry : id = 24 → s.fallbackOn = true → MayRestart s id p .fallback 16

/-- Where a new play of this source and priority can be made (02 R28, R34, 07 R154). -/
inductive MayHold (s : State) : Nat → Source → Nat → Prop
  | ordinary {id : Nat} {source : Source} {priority : Nat} :
    1 ≤ id → id ≤ 23 → source ≠ .fallback → s.GivesPriority priority → MayHold s id source priority
  | entry : s.fallbackOn = true → MayHold s 24 .fallback 16

/-- No play of cue `n` stands in the way in `m`: none stood in `s`, or the one that did has just ended. -/
inductive Vacated (s : State) (n : Nat) : State → Prop
  | absent : s.playOf n = none → Vacated s n s
  | ended {id : Nat} : s.playOf n = some id → Vacated s n (s.endPlay id)

/-- One act of the Play Engine and the Claim Arbiter, with what is known when it happens. -/
inductive PlayAct : State → State → Prop
  | event (s : State) (e : EventFlag) (refusal : Option RefusalRecord) (eviction : Option EvictionRecord) :
    PlayAct s { s.raise e with lastRefusal := refusal, lastEviction := eviction }
  | adjusted {s : State} {id : Nat} {p q : Play} : s.play id = some p →
    q.cue = p.cue → q.source = p.source → q.priority = p.priority →
    (q.pendingRestart = true → p.pendingRestart = true ∨ p.source ≠ .fallback) →
    (p.phase.beforeFade = false → q.phase.beforeFade = false) → PlayAct s (s.setPlay id (some q))
  | ended (s : State) (id : Nat) : PlayAct s (s.endPlay id)
  | restarted {s : State} {id : Nat} {p : Play} {source : Source} {priority : Nat} : s.play id = some p →
    MayRestart s id p source priority → PlayAct s (s.restart id source priority)
  | admitted {s : State} {id cue : Nat} {source : Source} {priority : Nat} {marks : List Nat} : s.playOf cue = none →
    s.admissionCheck (s.slot cue).record.channelNumbers priority = .admits marks →
    (s.evictAll cue marks).play id = none → MayHold s id source priority →
    PlayAct s ((s.evictAll cue marks).fillRecord id cue source priority)
  | handedOver {s m : State} {id cue : Nat} {p : Play} {marks : List Nat} : Vacated s cue m → m.play id = some p →
    cue ≠ p.cue → (m.slot p.cue).status ≠ .retiring → p.phase.beforeFade = true →
    m.admissionCheck (m.slot cue).record.channelNumbers (p.chainPriority (m.slot cue).record.priority) (some id) =
      .admits marks →
    PlayAct s (((m.evictAll cue marks).removeClaims id).fillRecord id cue p.chainSource
      (p.chainPriority (m.slot cue).record.priority))
  | converted {s : State} {id cue : Nat} {p : Play} : s.playOf cue = some id → s.play id = some p → s.play 24 = none →
    s.fallbackOn = true → PlayAct s (s.convert id p)
  | edited {s : State} {n : Nat} {x : Slot} : x.record.channels = (s.slot n).record.channels →
    x.record.priority = (s.slot n).record.priority →
    (x.status = .retiring → (s.slot n).status = .retiring ∨ (s.playOf n).isSome = true) → PlayAct s (s.setSlot n x)
  | rewritten {s m : State} {n : Nat} {x : Slot} : Vacated s n m → x.status ≠ .retiring → x.record.priority ≤ 15 →
    PlayAct s (m.setSlot n x)

/-- A run of play acts. -/
abbrev PlayActs : State → State → Prop := Relation.ReflTransGen PlayAct

theorem playFrame_of_vacated {s m : State} {n : Nat} (h : Vacated s n m) : PlayFrame s m := by
  cases h with
  | absent => exact PlayFrame.refl s
  | ended => exact playFrame_endPlay s _

theorem playFrame_convert (s : State) (id : Nat) (p : Play) : PlayFrame s (s.convert id p) :=
  (((playFrame_setPlay _ _ _).trans (playFrame_setPlay _ _ _)).trans (playFrame_renameClaims _ _ _)).trans
    (playFrame_arrive _ _)

theorem PlayAct.frame {s t : State} (h : PlayAct s t) : PlayFrame s t := by
  cases h with
  | event => rfl
  | adjusted => rfl
  | ended => exact playFrame_endPlay _ _
  | restarted => exact playFrame_restart _ _ _ _
  | admitted => exact (playFrame_evictAll _ _ _).trans (playFrame_fillRecord _ _ _ _ _)
  | handedOver vacated =>
    exact (playFrame_of_vacated vacated).trans
      (((playFrame_evictAll _ _ _).trans (playFrame_removeClaims _ _)).trans (playFrame_fillRecord _ _ _ _ _))
  | converted => exact playFrame_convert _ _ _
  | edited => rfl
  | rewritten vacated => exact (playFrame_of_vacated vacated).trans (playFrame_setSlot _ _ _)

theorem PlayActs.frame {s t : State} (h : PlayActs s t) : PlayFrame s t := by
  induction h with
  | refl => exact PlayFrame.refl s
  | tail _ act ih => exact ih.trans act.frame

/-- What every play act keeps, every run of them keeps. -/
theorem PlayActs.keeps {P : State → Prop} (act : ∀ s t, PlayAct s t → P s → P t) {s t : State} (h : PlayActs s t)
    (hs : P s) : P t := by
  induction h with
  | refl => exact hs
  | tail _ one ih => exact act _ _ one ih

/-! ## Every operation is a run of play acts -/

theorem playActs_endPlay (s : State) (id : Nat) : PlayActs s (s.endPlay id) := .single (.ended s id)

theorem playActs_restart {s : State} {id : Nat} {p : Play} {source : Source} {priority : Nat} (hp : s.play id = some p)
    (may : MayRestart s id p source priority) : PlayActs s (s.restart id source priority) := .single (.restarted hp may)

theorem playActs_endOrRestart (s : State) (id : Nat) : PlayActs s (s.endOrRestart id) := by
  unfold State.endOrRestart
  split
  · exact .refl
  · next p hp =>
    split
    · next pending => exact playActs_restart hp (.pending pending (.inr ⟨p.cue, rfl⟩))
    · exact playActs_endPlay s id

theorem playActs_toFadeout {s : State} {id : Nat} {p : Play} (hp : s.play id = some p) (r : CueRecord) :
    PlayActs s (s.setPlay id (some (p.toFadeout r))) :=
  .single (.adjusted hp rfl rfl rfl .inl fun _ => rfl)

theorem playActs_releasePlay (s : State) (id : Nat) : PlayActs s (s.releasePlay id) := by
  unfold State.releasePlay
  split
  · exact .refl
  · next p hp =>
    split
    · exact .refl
    all_goals
      split
      · exact playActs_endOrRestart s id
      · exact playActs_toFadeout hp _

theorem playActs_clearPending (s : State) (id : Nat) : PlayActs s (s.clearPending id) := by
  unfold State.clearPending
  split
  · exact .refl
  · next p hp => exact .single (.adjusted hp rfl rfl rfl (fun h => nomatch h) fun h => h)

theorem playActs_requestRelease (s : State) (id : Nat) : PlayActs s (s.requestRelease id) :=
  (playActs_clearPending s id).trans (playActs_releasePlay _ id)

theorem playActs_foldl {α : Type} (f : State → α → State) (hf : ∀ s a, PlayActs s (f s a)) (l : List α) (s : State) :
    PlayActs s (l.foldl f s) := by
  induction l generalizing s with
  | nil => exact .refl
  | cons a l ih => exact (hf s a).trans (ih (f s a))

theorem playActs_raise (s : State) (e : EventFlag) : PlayActs s (s.raise e) :=
  .single (.event s e s.lastRefusal s.lastEviction)

theorem playActs_reportOutcome (s : State) (cue : Nat) (source : Source) (o : Outcome) :
    PlayActs s (s.reportOutcome cue source o) := by
  cases o with
  | refused reason channel =>
    exact .single (.event s .triggerRefused (some ⟨cue, source, reason, channel⟩) s.lastEviction)
  | ok | ignored => exact .refl

theorem playActs_admitPlay {s : State} {cue : Nat} {source : Source} {priority : Nat} (absent : s.playOf cue = none)
    (hsource : source ≠ .fallback) (hpriority : s.GivesPriority priority) :
    PlayActs s (s.admitPlay cue source priority).1 := by
  unfold State.admitPlay
  split
  · exact .refl
  · split
    · exact .refl
    · next marks check =>
      dsimp only
      split
      · exact .refl
      · next id free =>
        obtain ⟨low, high, empty⟩ := lowestFreeId_spec free
        exact .single (.admitted absent check empty (.ordinary low high hsource hpriority))

theorem playActs_retrigger {s : State} {id : Nat} {p : Play} {source : Source} {priority : Nat}
    (hp : s.play id = some p) (ordinary : p.source ≠ .fallback) (hsource : source ≠ .fallback)
    (hpriority : s.GivesPriority priority) : PlayActs s (s.retrigger id p source priority).1 := by
  unfold State.retrigger
  split
  · exact playActs_restart hp (.ordinary ordinary hsource hpriority)
  · exact .single (.adjusted hp rfl rfl rfl (fun _ => .inr ordinary) fun h => h)
  · exact .refl

theorem givesPriority_override (s : State) (cue : Nat) {override : Option Nat} (h : ∀ x ∈ override, x ≤ 15) :
    s.GivesPriority (override.getD (s.slot cue).record.priority) := by
  cases override with
  | none => exact .inr ⟨cue, rfl⟩
  | some x => exact .inl (h x rfl)

theorem playActs_triggerFrom6 {s : State} {cue : Nat} {source : Source} {override : Option Nat}
    (hsource : source ≠ .fallback) (hoverride : ∀ x ∈ override, x ≤ 15) :
    PlayActs s (s.triggerFrom6 cue source override).1 := by
  have hpriority := givesPriority_override s cue hoverride
  unfold State.triggerFrom6
  dsimp only
  split
  · next absent => exact playActs_admitPlay absent hsource hpriority
  · next id found =>
    obtain ⟨-, p, hp, -⟩ := playOf_some found
    rw [hp]
    dsimp only
    split
    · exact .refl
    · next ordinary => exact playActs_retrigger hp ordinary hsource hpriority

theorem playActs_triggerFrom4 {s : State} {cue : Nat} {source : Source} {override : Option Nat}
    (hsource : source ≠ .fallback) (hoverride : ∀ x ∈ override, x ≤ 15) :
    PlayActs s (s.triggerFrom4 cue source override).1 := by
  unfold State.triggerFrom4
  split
  · exact .refl
  · exact .refl
  · exact playActs_triggerFrom6 hsource hoverride

theorem playActs_triggerReported {s : State} {cue : Nat} {source : Source} (hsource : source ≠ .fallback) :
    PlayActs s (s.triggerReported cue source) :=
  (playActs_triggerFrom4 hsource (by simp)).trans (playActs_reportOutcome _ _ _ _)

theorem playActs_failChain (s : State) (id : Nat) : PlayActs s (s.failChain id) :=
  (playActs_endPlay s id).trans (playActs_raise _ _)

theorem playActs_of_vacated {s m : State} {n : Nat} (h : Vacated s n m) : PlayActs s m := by
  cases h with
  | absent => exact .refl
  | ended => exact playActs_endPlay s _

theorem playActs_handover {s m : State} {id t : Nat} {p : Play} (vacated : Vacated s t m) (hp : m.play id = some p)
    (hne : t ≠ p.cue) (keeps : (m.slot p.cue).status ≠ .retiring) (before : p.phase.beforeFade = true) :
    PlayActs s (m.handover id p t) := by
  unfold State.handover
  dsimp only
  split
  · exact (playActs_of_vacated vacated).trans (playActs_failChain m id)
  · next marks check => exact .single (.handedOver vacated hp hne keeps before check)

theorem playActs_chainToBusy (s : State) (id t : Nat) : PlayActs s (s.chainToBusy id t) :=
  ((playActs_triggerFrom6 (source := .chain) (override := none) (by decide) (by simp)).trans
    (playActs_reportOutcome _ _ _ _)).trans (playActs_endPlay _ id)

theorem playActs_chain {s : State} {id : Nat} {p : Play} (hp : s.play id = some p)
    (keeps : (s.slot p.cue).status ≠ .retiring) (before : p.phase.beforeFade = true) (t : Nat) :
    PlayActs s (s.chain id p t) := by
  unfold State.chain
  split
  · exact playActs_failChain s id
  · split
    · refine playActs_restart hp ?_
      by_cases fallback : p.source = .fallback
      · rw [Play.chainSource, Play.chainPriority, if_pos fallback, if_pos fallback]
        exact .chained fallback before
      · rw [Play.chainSource, Play.chainPriority, if_neg fallback, if_neg fallback]
        exact .ordinary fallback (by decide) (.inr ⟨p.cue, rfl⟩)
    · next hne =>
      split
      · next absent => exact playActs_handover (.absent absent) hp hne keeps before
      · next other found =>
        split
        · obtain ⟨-, q, hq, hcue⟩ := playOf_some found
          have distinct : id ≠ other := by
            rintro rfl
            rw [hp] at hq
            exact hne (by rw [← hcue, Option.some.inj hq])
          exact playActs_handover (.ended found) (by rw [play_endPlay_other s distinct, hp]) hne
            (status_endPlay_ne_retiring keeps) before
        · exact playActs_chainToBusy s id t

theorem playActs_repeatPlay {s : State} {id : Nat} {p : Play} (hp : s.play id = some p)
    (before : p.phase.beforeFade = true) : PlayActs s (s.repeatPlay id p) := by
  have again (q : Play) (hc : q.cue = p.cue) (hs : q.source = p.source) (hpr : q.priority = p.priority)
      (hpd : q.pendingRestart = p.pendingRestart) : PlayActs s (s.setPlay id (some q)) :=
    .single (.adjusted hp hc hs hpr (fun h => .inl (hpd ▸ h)) (fun h => absurd before (by simp [h])))
  unfold State.repeatPlay
  dsimp only
  split
  · exact again _ rfl rfl rfl rfl
  · exact playActs_releasePlay s id
  · exact again _ rfl rfl rfl rfl

theorem playActs_endAction {s : State} {id : Nat} {p : Play} (hp : s.play id = some p)
    (before : p.phase.beforeFade = true) : PlayActs s (s.endAction id p) := by
  unfold State.endAction
  split
  · exact playActs_releasePlay s id
  · next keeps =>
    split
    · exact .single (.adjusted hp rfl rfl rfl .inl (fun h => absurd before (by simp [h])))
    · exact playActs_releasePlay s id
    · exact playActs_repeatPlay hp before
    · exact playActs_chain hp keeps before _

theorem playActs_endRamp {s : State} {id : Nat} {p : Play} (hp : s.play id = some p)
    (before : p.phase.beforeFade = true) : PlayActs s (s.endRamp id p) := by
  unfold State.endRamp
  dsimp only
  split
  · exact playActs_endAction hp before
  · exact .single (.adjusted hp rfl rfl rfl .inl (fun h => absurd before (by simp [h])))

theorem playActs_rampStep {s : State} {id : Nat} {p : Play} (hp : s.play id = some p) (ramp : p.phase = .ramp) :
    PlayActs s (s.rampStep id p) := by
  have before : p.phase.beforeFade = true := by rw [ramp]; rfl
  unfold State.rampStep
  dsimp only
  split
  · exact (Relation.ReflTransGen.single
      (.adjusted hp rfl rfl rfl .inl (fun h => absurd before (by simp [h])))).trans
        (playActs_endRamp (play_setPlay_same s id _ (id_of_play s id p hp)) before)
  · exact .single (.adjusted hp rfl rfl rfl .inl (fun h => absurd before (by simp [h])))

theorem playActs_fadeStep {s : State} {id : Nat} {p : Play} (hp : s.play id = some p) (origins : List OriginLevel)
    (done : Nat) : PlayActs s (s.fadeStep id p origins done) := by
  unfold State.fadeStep
  dsimp only
  split
  · exact playActs_endOrRestart s id
  · exact .single (.adjusted hp rfl rfl rfl .inl fun _ => rfl)

theorem playActs_patternRelease (s : State) (cue : Nat) : PlayActs s (s.patternRelease cue) := by
  unfold State.patternRelease
  split
  · exact .refl
  · split
    · exact .refl
    · exact playActs_requestRelease s _

theorem playActs_patternAction (s : State) (k : Nat) (r : PatternRecord) : PlayActs s (s.patternAction k r) := by
  have trigger : PlayActs s (s.triggerReported r.cue (.input k)) := playActs_triggerReported (fun h => nomatch h)
  unfold State.patternAction
  split
  · exact trigger
  · exact playActs_patternRelease s _
  · split
    · exact playActs_patternRelease s _
    · exact trigger

/-! ## Fallback (07 R151 to R155, R159) -/

theorem playActs_admitFallback {s : State} {cue : Nat} (absent : s.playOf cue = none) (empty : s.play 24 = none)
    (on : s.fallbackOn = true) : PlayActs s (s.admitFallback cue) := by
  unfold State.admitFallback
  split
  · exact .refl
  · next marks check =>
    exact .single (.admitted absent check (by rw [play_evictAll]; exact ite_eq_left_iff.mpr fun _ => empty) (.entry on))

theorem playActs_makeFallback {s : State} (cue : Nat) (empty : s.play 24 = none) (on : s.fallbackOn = true) :
    PlayActs s (s.makeFallback cue) := by
  unfold State.makeFallback
  split
  · next absent => exact playActs_admitFallback absent empty on
  · next id found =>
    obtain ⟨-, p, hp, -⟩ := playOf_some found
    rw [hp]
    exact .single (.converted found hp empty on)

theorem playActs_settleFallback {s : State} (on : s.fallbackOn = true) : PlayActs s s.settleFallback := by
  unfold State.settleFallback
  split
  · exact .refl
  · split
    · next empty => exact playActs_makeFallback _ empty on
    · next p hp =>
      split
      · exact playActs_restart hp (.entry rfl on)
      · exact (playActs_endPlay s 24).trans
          (playActs_makeFallback _ (play_endPlay s 24) ((playFrame_endPlay s 24).fallbackOn.trans on))

/-! ## Cue edits (01 R23, R24) -/

/-- The play of a cue, if it exists, ends. -/
theorem vacated_playOf (s : State) (n : Nat) :
    Vacated s n (match s.playOf n with | none => s | some id => s.endPlay id) := by
  cases h : s.playOf n with
  | none => exact .absent h
  | some id => exact .ended h

theorem playActs_retireNow (s : State) (n : Nat) : PlayActs s (s.retireNow n) :=
  .single (.rewritten (vacated_playOf s n) (fun h => nomatch h) (by decide : CueRecord.empty.priority ≤ 15))

theorem playActs_runDown (s : State) (id : Nat) : PlayActs s (s.runDown id) := by
  unfold State.runDown
  dsimp only
  split
  · exact playActs_clearPending s id
  · split
    · exact playActs_requestRelease s id
    · exact playActs_clearPending s id

theorem playActs_retireGracefully (s : State) (n : Nat) : PlayActs s (s.retireGracefully n) := by
  unfold State.retireGracefully
  split
  · next absent =>
    exact .single (.rewritten (.absent absent) (fun h => nomatch h) (by decide : CueRecord.empty.priority ≤ 15))
  · next id found =>
    exact (Relation.ReflTransGen.single (.edited rfl rfl fun _ => .inr (by rw [found]; rfl))).trans (playActs_runDown _ id)

end Sys2Proof.Machine
end

section
/-! What a command can do, said once: every command is a run of acts, each with what is known when it happens. -/

namespace Sys2Proof.Machine

/-- What happens to the channel records and the thermal state through the stages, the supervisor and the temperature (05). -/
inductive ChannelAct : State → State → Prop
  | condition (s : State) (c : Nat) (cond : FaultCondition) (present : Bool) :
    ChannelAct s (s.conditionChange c cond present)
  | trip (s : State) (c : Nat) (cond : FaultCondition) : ChannelAct s (s.takeTrip c cond)
  | openLoad (s : State) (c : Nat) : ChannelAct s (s.takeOpenLoad c)
  | retry (s : State) (c : Nat) : ChannelAct s (s.retryExpiry c)
  | goodRun (s : State) (c : Nat) : ChannelAct s (s.goodRunExpiry c)
  | clear (s : State) (named : List Nat) : ChannelAct s (s.clearFaults named)
  | sample (s : State) (degrees : Int) : ChannelAct s (s.sample degrees)

/-- One act of the part. -/
inductive Act : State → State → Prop
  | ports (s : State) (receiver : Receiver) (linkReply : LinkReply) (linkAddress : Nat) (spReply : SpReply)
      (spWrite : SpWrite) (spReading : Option (List Byte)) (serviceMode : LiveMode) (spAck : Bool) (spOut : List Byte) :
    Act s { s with
      receiver := receiver, linkReply := linkReply, linkAddress := linkAddress, spReply := spReply, spWrite := spWrite,
      spReading := spReading, serviceMode := serviceMode, spAck := spAck, spOut := spOut }
  | refreshed (s : State) : Act s s.startWatchdog
  | reset (s : State) (powered rstnLow : Bool) (cause : ResetCause) :
    Act s (State.partReset { s with powered := powered, rstnLow := rstnLow } cause)
  | pinLow {s : State} : s.powered = false → Act s { s with rstnLow := true }
  | pinHigh {s : State} : s.rstnLow = true →
    Act s { s with rstnLow := false, stage := if s.powered then .loading else .held }
  | loaded {s : State} : s.stage = .loading → Act s s.endLoad
  | entered {s u : State} : s.stage.settles = true →
    PlayActs (State.acceptLines { s with stage := .running }).startWatchdog u → Act s u.drive
  | raised (s : State) (e : EventFlag) (refusal : Option RefusalRecord) :
    Act s { s.raise e with lastRefusal := refusal }
  | cleared (s : State) (named : EventSet) : Act s (s.clearFlags named)
  | played {s u : State} : s.running = true ∨ (∃ id p, s.play id = some p) → PlayActs s u → Act s u.drive
  | wrote {s : State} {n : Nat} {x : Slot} : s.playOf n = none → x.status ≠ .retiring → x.record.priority ≤ 15 →
    Act s (s.setSlot n x)
  | froze (s : State) (frozen : Bool) : Act s { s with frozen := frozen }
  | offered (s : State) (e : InputEvent) : Act s { s with patterns := mapBank (·.offer e) s.patterns }
  | patternWritten (s : State) (k : Nat) {r : PatternRecord} : r.elements ≠ [] → Act s (s.setPattern k (Pattern.idle r))
  | windowOut {s : State} {k : Nat} {x : Pattern} : s.pattern k = some x → Act s (s.setPattern k x.clear)
  | rawMoved {s : State} {l : Nat} {x : Line} (raw : LineLevel) : s.line l = some x → s.watches l = false →
    Act s (s.setLine l { x with raw := raw })
  | debounced {s : State} {l : Nat} {x y : Line} : s.line l = some x → s.watches l = true →
    (x.accepted.isSome = true → y.accepted.isSome = true) → (y.timer.isSome = true ↔ y.accepted ≠ some y.raw) →
    Act s (s.setLine l y)
  | channel {s t : State} : ChannelAct s t → Act s t
  | configured {s : State} {payload : List Byte} {es : List ConfigEntry} (o : Origin) : s.running = true →
    readSetConfig s.config payload = some es → Act s (s.applyConfig es o)
  | saving (s : State) (owner : Port) : Act s (s.startSave owner)
  | saved (s : State) : Act s s.saveCompletion
  | failed (s : State) : Act s s.saveFailure
  | snapshot (s : State) : Act s { s with resumeSet := s.sustainedCues }
  | exited {s : State} : s.running = true → s.fallbackOn = true → Act s s.exitFallback.drive
  | fellBack {s : State} : s.watchdog = some 0 → Act s s.enterFallback.drive

/-- A run of acts. -/
abbrev Acts : State → State → Prop := Relation.ReflTransGen Act

/-! ## The ports -/

theorem acts_releaseReply (s : State) (d : Deferred) : Acts s (s.releaseReply d) := by
  have dropped : Acts s { s with linkReply := .idle, linkAddress := d.address.getD s.linkAddress } :=
    .single (.ports s s.receiver .idle (d.address.getD s.linkAddress) s.spReply s.spWrite s.spReading s.serviceMode
      s.spAck s.spOut)
  unfold State.releaseReply
  dsimp only
  split
  · exact dropped.tail (.reset _ s.powered s.rstnLow .request)
  · exact dropped

theorem acts_receiver (s : State) (r : Receiver) : Acts s { s with receiver := r } :=
  .single (.ports s r s.linkReply s.linkAddress s.spReply s.spWrite s.spReading s.serviceMode s.spAck s.spOut)

theorem acts_linkReply (s : State) (r : LinkReply) : Acts s { s with linkReply := r } :=
  .single (.ports s s.receiver r s.linkAddress s.spReply s.spWrite s.spReading s.serviceMode s.spAck s.spOut)

/-- The Service Port's own registers. -/
theorem acts_servicePort (s : State) (reply : SpReply) (write : SpWrite) (reading : Option (List Byte)) (mode : LiveMode)
    (ack : Bool) (out : List Byte) :
    Acts s { s with
      spReply := reply, spWrite := write, spReading := reading, serviceMode := mode, spAck := ack, spOut := out } :=
  .single (.ports s s.receiver s.linkReply s.linkAddress reply write reading mode ack out)

theorem acts_raise (s : State) (e : EventFlag) : Acts s (s.raise e) := .single (.raised s e s.lastRefusal)

theorem acts_startBit (s : State) : Acts s s.startBit := by
  unfold State.startBit
  split
  · exact acts_releaseReply s _
  all_goals exact .refl

theorem acts_hunting_after_startBit (s : State) : Acts s { s.startBit with receiver := .hunting } :=
  (acts_startBit s).trans (acts_receiver _ .hunting)

theorem acts_startBitReceiving (s : State) : Acts s s.startBitReceiving := by
  unfold State.startBitReceiving
  split
  · split
    · exact acts_releaseReply s _
    · exact (acts_releaseReply s _).trans (acts_receiver _ .receiving)
  all_goals exact .refl

theorem acts_receiveFrame (s : State) (address : Byte) : Acts s (s.receiveFrame address).1 := by
  unfold State.receiveFrame
  split
  · exact .refl
  · dsimp only
    split
    · exact acts_hunting_after_startBit s
    · exact (acts_hunting_after_startBit s).tail (.refreshed _)

theorem acts_endWrite (s : State) : Acts s s.endWrite.1 := by
  rw [endWrite_frame]
  exact acts_servicePort s _ _ _ s.serviceMode _ s.spOut

theorem acts_receive (s : State) (via : Via) : Acts s (s.receive via).1 := by
  cases via with
  | link address => exact acts_receiveFrame s address
  | servicePort => exact acts_endWrite s

/-- A request passes its port checks only on a part that is RUNNING (08 R164). -/
theorem running_of_portCheck {s : State} {k : RequestClass} {o : Origin} (h : s.portCheck k o = none) :
    s.running = true := by
  cases stopped : s.running with
  | true => rfl
  | false => simp [State.portCheck, stopped] at h

/-- What a request does beyond its arrival and its answer is what its block does. -/
theorem acts_request (s : State) (k : RequestClass) (via : Via) (block : Origin → State → Answer)
    (acts_block : ∀ o t, t.running = true → Acts t (block o t).state) : Acts s (s.request k via block) :=
  request_keeps (Acts s) s k via block (acts_receive s via)
    (fun o t ht check => ht.trans (acts_block o t (running_of_portCheck check)))
    (fun t r ht => ht.trans (acts_linkReply t r))
    (fun t r ht => ht.trans (acts_servicePort t r t.spWrite t.spReading t.serviceMode t.spAck t.spOut))

/-- A block that refuses malformed operands does nothing where it does so. -/
theorem acts_readThen {α : Type} (operands : Option α) (act : α → State → Answer) (s : State)
    (h : ∀ x, operands = some x → Acts s (act x s).state) : Acts s (readThen operands act s).state := by
  cases operands with
  | none => exact .refl
  | some x => exact h x rfl

theorem acts_editThen {α : Type} (operands : Option α) (act : α → State → Answer) (s : State)
    (h : ∀ x, operands = some x → Acts s (act x s).state) : Acts s (editThen operands act s).state := by
  unfold editThen
  split
  · exact .refl
  · exact acts_readThen operands act s h

/-! ## Triggers, patterns and cue edits -/

/-- A TRIGGER that is refused has changed nothing yet, and one that is ignored changes nothing (02 R30, R33). -/
theorem state_triggerFrom4_of_not_ok {s : State} {cue : Nat} {source : Source} {override : Option Nat}
    (h : ∀ id, (s.triggerFrom4 cue source override).2 ≠ .ok id) : (s.triggerFrom4 cue source override).1 = s := by
  revert h
  have admission (priority : Nat) : (∀ id, (s.admitPlay cue source priority).2 ≠ .ok id) →
      (s.admitPlay cue source priority).1 = s := by
    unfold State.admitPlay
    split
    · exact fun _ => rfl
    · split
      · exact fun _ => rfl
      · dsimp only
        split
        · exact fun _ => rfl
        · exact fun h => absurd rfl (h _)
  unfold State.triggerFrom4
  split
  · exact fun _ => rfl
  · exact fun _ => rfl
  · unfold State.triggerFrom6
    dsimp only
    split
    · exact admission _
    · split
      · exact admission _
      · split
        · exact fun _ => rfl
        · unfold State.retrigger
          split
          · exact fun h => absurd rfl (h _)
          · exact fun h => absurd rfl (h _)
          · exact fun _ => rfl

theorem readTrigger_override_le {payload : List Byte} {n : Nat} {override : Option Nat}
    (h : readTrigger payload = some (n, override)) : ∀ x ∈ override, x ≤ 15 := by
  have range (b : Byte) (x : Nat) (hx : readRange 0 15 b = some x) : x ≤ 15 := by
    simp only [readRange] at hx
    split at hx
    · next both => rw [← Option.some.inj hx]; exact both.2
    · exact absurd hx (by simp)
  unfold readTrigger at h
  split at h
  · obtain ⟨_, _, hpair⟩ := Option.map_eq_some_iff.mp h
    cases hpair
    simp
  · split at h
    · next b _ _ priority _ hp =>
      cases h
      rintro x hx
      cases hx
      exact range _ _ hp
    · exact absurd h (by simp)
  · exact absurd h (by simp)

theorem source_ne_fallback (o : Origin) : o.source ≠ .fallback := by cases o <;> decide

theorem acts_triggerRequest {s : State} (running : s.running = true) (o : Origin) {payload : List Byte}
    {w : Nat × Option Nat} (hw : readTrigger payload = some w) : Acts s (s.triggerRequest o w).state := by
  have acted : PlayActs s (s.triggerFrom4 w.1 o.source w.2).1 :=
    playActs_triggerFrom4 (source_ne_fallback o) (readTrigger_override_le hw)
  have unchanged := state_triggerFrom4_of_not_ok (s := s) (cue := w.1) (source := o.source) (override := w.2)
  unfold State.triggerRequest
  dsimp only
  cases outcome : (s.triggerFrom4 w.1 o.source w.2).2 with
  | ok id =>
    have whole : PlayActs s (if o = .group then (s.triggerFrom4 w.1 o.source w.2).1.reportOutcome w.1 .buildingLink (.ok id)
        else (s.triggerFrom4 w.1 o.source w.2).1) := by
      split
      · exact acted.trans (playActs_reportOutcome _ _ _ _)
      · exact acted
    exact .single (.played (.inl running) whole)
  | ignored id =>
    rw [unchanged (by simp [outcome])]
    simp only [State.reportOutcome, ite_self]
    exact .refl
  | refused reason channel =>
    rw [unchanged (by simp [outcome])]
    simp only [State.driveAfter]
    split
    · exact .single (.raised s .triggerRefused _)
    · exact .refl

theorem acts_drive_of_playActs {s u : State} (running : s.running = true) (h : PlayActs s u) : Acts s u.drive :=
  .single (.played (.inl running) h)

theorem running_performAction {s : State} (k : Nat) : (s.performAction k).running = s.running := by
  unfold State.performAction
  split
  · rfl
  · exact (playFrame_patternAction s k _).running

theorem acts_performActions {s : State} (running : s.running = true) (ks : List Nat) :
    Acts s (ks.foldl State.performAction s) := by
  induction ks generalizing s with
  | nil => exact .refl
  | cons k ks ih =>
    have one : Acts s (s.performAction k) := by
      unfold State.performAction
      split
      · exact .refl
      · exact acts_drive_of_playActs running (playActs_patternAction s k _)
    exact one.trans (ih ((running_performAction k).trans running))

theorem acts_offer (s : State) (e : InputEvent) : Acts s (s.offer e) := by
  unfold State.offer
  dsimp only
  split
  · exact .single (.offered s e)
  · exact (Relation.ReflTransGen.single (.offered s e)).trans (acts_raise _ _)

theorem running_offer (s : State) (e : InputEvent) : (s.offer e).running = s.running := by
  unfold State.offer
  dsimp only
  split <;> rfl

theorem acts_inputEvent {s : State} (running : s.running = true) (e : InputEvent) : Acts s (s.inputEvent e) :=
  (acts_offer s e).trans (acts_performActions ((running_offer s e).trans running) _)

theorem running_of_watches {s : State} {l : Nat} (h : s.watches l = true) : s.running = true := by
  simp only [State.watches, Bool.and_eq_true] at h
  exact h.1

theorem acts_acceptRaw {s : State} {l : Nat} {x y : Line} (hx : s.line l = some x) (watched : s.watches l = true) :
    Acts s (s.acceptRaw l y) := by
  unfold State.acceptRaw
  have accepted : Act s (s.setLine l { y with accepted := some y.raw, timer := none }) :=
    .debounced hx watched (fun _ => rfl) (by simp)
  have running : (s.setLine l { y with accepted := some y.raw, timer := none }).running = true :=
    running_of_watches watched
  exact (Relation.ReflTransGen.single accepted).trans (acts_inputEvent running _)

theorem acts_rawChange (s : State) (l : Nat) (level : LineLevel) : Acts s (s.rawChange l level) := by
  unfold State.rawChange
  split
  · exact .refl
  · next x hx =>
    split
    · exact .refl
    · split
      · next watched =>
        unfold State.watchRaw
        dsimp only
        split
        · next same => exact .single (.debounced hx watched (fun h => h) (by simpa using same))
        · next differs =>
          split
          · exact acts_acceptRaw hx watched
          · exact .single (.debounced hx watched (fun h => h) (by simpa using differs))
      · next unwatched => exact .single (.rawMoved level hx (Bool.not_eq_true _ ▸ unwatched))

theorem acts_debounceExpiry (s : State) (l : Nat) : Acts s (s.debounceExpiry l) := by
  unfold State.debounceExpiry
  split
  · exact .refl
  · next x hx =>
    split
    · next due => exact acts_acceptRaw hx due.1
    · exact .refl

theorem acts_windowExpiry (s : State) (k : Nat) : Acts s (s.windowExpiry k) := by
  unfold State.windowExpiry
  split
  · exact .refl
  · next x hx =>
    split
    · exact .single (.windowOut hx)
    · exact .refl

/-! ## Records that are written -/

theorem readRange_le {lo hi : Nat} {b : Byte} {n : Nat} (h : readRange lo hi b = some n) : lo ≤ n ∧ n ≤ hi := by
  simp only [readRange] at h
  split at h
  · next both => rw [← Option.some.inj h]; exact both
  · exact absurd h (by simp)

/-- A record that WRITE_CUE accepts has a priority 0..15 (01 R4). -/
theorem readRecord_priority_le {trimmed : Bool} {bs : List Byte} {r : CueRecord} (h : readRecord trimmed bs = some r) :
    r.priority ≤ 15 := by
  unfold readRecord at h
  split at h
  · exact absurd h (by simp)
  · dsimp only at h
    split at h
    · unfold readRecordBody at h
      split at h
      · simp only [Option.bind_eq_bind, Option.bind_eq_some_iff] at h
        obtain ⟨priority, hp, _, _, _, _, _, _, _, _, _, _, _, _, _, _, _, _, h⟩ := h
        split at h
        · exact absurd h (by simp)
        · rw [← Option.some.inj h]; exact (readRange_le hp).2
      · exact absurd h (by simp)
    · exact absurd h (by simp)

theorem readWriteCue_priority_le {bs : List Byte} {w : CueWrite} (h : readWriteCue bs = some w) :
    w.record.priority ≤ 15 := by
  unfold readWriteCue at h
  split at h
  · simp only [Option.bind_eq_bind, Option.bind_eq_some_iff] at h
    obtain ⟨slot, -, h⟩ := h
    split at h
    · exact absurd h (by simp)
    · split at h
      · split at h
        · exact absurd h (by simp)
        · obtain ⟨r, hr, rfl⟩ := Option.map_eq_some_iff.mp h
          exact readRecord_priority_le hr
      · obtain ⟨r, hr, rfl⟩ := Option.map_eq_some_iff.mp h
        exact readRecord_priority_le hr
  · exact absurd h (by simp)

/-- A pattern record that WRITE_PATTERN accepts has at least one element (06 R130). -/
theorem readWritePattern_elements_ne_nil {bs : List Byte} {w : Nat × PatternRecord} (h : readWritePattern bs = some w) :
    w.2.elements ≠ [] := by
  unfold readWritePattern at h
  split at h
  · simp only [Option.bind_eq_bind, Option.bind_eq_some_iff] at h
    obtain ⟨_, _, _, _, count, hcount, elements, hel, h⟩ := h
    split at h
    · simp only [Option.bind_eq_some_iff] at h
      obtain ⟨_, _, _, _, _, _, h⟩ := h
      rw [← Option.some.inj h]
      have one := (readRange_le hcount).1
      rintro (nothing : elements.1 = [])
      unfold readElements at hel
      split at hel
      · omega
      · split at hel
        · cases hel; cases nothing
        · exact absurd hel (by simp)
      · exact absurd hel (by simp)
    · exact absurd h (by simp)
  · exact absurd h (by simp)

theorem acts_writeCue (s : State) {payload : List Byte} {w : CueWrite} (hw : readWriteCue payload = some w) :
    Acts s (s.writeCue w).state := by
  unfold State.writeCue
  dsimp only
  split
  · exact .refl
  · split
    · exact .refl
    · next absent =>
      split
      · exact .refl
      · split
        · exact .refl
        · exact .single (.wrote absent (fun h => nomatch h) (readWriteCue_priority_le hw))

theorem acts_setTrim {s : State} (running : s.running = true) (w : Nat × Byte × Option Byte) :
    Acts s (s.setTrim w).state := by
  unfold State.setTrim
  dsimp only
  split
  · exact .refl
  · exact .refl
  · next held =>
    split
    · exact .refl
    · exact acts_drive_of_playActs running
        (.single (.edited rfl rfl fun (retiring : (s.slot w.1).status = .retiring) => .inl retiring))

theorem acts_retireCue {s : State} (running : s.running = true) (w : Nat × Bool) : Acts s (s.retireCue w).state := by
  unfold State.retireCue
  split
  · exact .refl
  · exact .refl
  · split
    · exact .refl
    · refine acts_drive_of_playActs running ?_
      split
      · exact playActs_retireGracefully s w.1
      · exact playActs_retireNow s w.1

/-! ## Releases and the link -/

theorem acts_releaseRequest {s : State} (running : s.running = true) (n : Nat) : Acts s (s.releaseRequest n).state := by
  unfold State.releaseRequest
  split
  · exact .refl
  · split
    · exact .refl
    · exact acts_drive_of_playActs running (playActs_requestRelease s _)

theorem acts_releaseAll {s : State} (running : s.running = true) (p : Nat) : Acts s (s.releaseAll p).state :=
  acts_drive_of_playActs running (playActs_foldl _ playActs_requestRelease _ s)

theorem acts_fallbackExit {s : State} (running : s.running = true) (token : Byte) :
    Acts s (s.fallbackExit token).state := by
  unfold State.fallbackExit
  split
  · exact .refl
  · next on =>
    split
    · exact .refl
    · exact .single (.exited running (by simpa using on))

theorem acts_enterMode (s : State) (mode : ServiceMode) : Acts s (s.enterMode mode) :=
  acts_servicePort s _ s.spWrite _ (.plain mode) s.spAck s.spOut

theorem acts_setServiceMode (s : State) (mode : ServiceMode) : Acts s (s.setServiceMode mode).state := by
  unfold State.setServiceMode
  split
  · exact acts_servicePort s s.spReply s.spWrite s.spReading _ s.spAck s.spOut
  · exact acts_enterMode s mode

theorem acts_resetRequest (s : State) (o : Origin) : Acts s (s.resetRequest o).state := by
  cases o with
  | unicast => exact .refl
  | group => exact .single (.reset s s.powered s.rstnLow .request)
  | servicePort => exact .refl

/-! ## Expiries and the supply -/

theorem acts_of_expiring {s : State} {id : Nat} {p : Play} (h : s.expiring id = some p) {u : State} (hu : PlayActs s u) :
    Acts s u.drive :=
  .single (.played (.inr ⟨id, p, ((expiring_iff s id p).mp h).2.1⟩) hu)

theorem play_of_expiring {s : State} {id : Nat} {p : Play} (h : s.expiring id = some p) : s.play id = some p :=
  ((expiring_iff s id p).mp h).2.1

theorem acts_delayExpiry (s : State) (id : Nat) : Acts s (s.delayExpiry id) := by
  unfold State.delayExpiry
  split
  · exact .refl
  · next p h =>
    split
    · next delay =>
      exact acts_of_expiring h (.single (.adjusted (play_of_expiring h) rfl rfl rfl .inl
        (by rw [delay]; exact fun no => nomatch no)))
    · exact .refl

theorem acts_rampStepExpiry (s : State) (id : Nat) : Acts s (s.rampStepExpiry id) := by
  unfold State.rampStepExpiry
  split
  · exact .refl
  · next p h =>
    split
    · next ramp => exact acts_of_expiring h (playActs_rampStep (play_of_expiring h) ramp)
    · exact .refl

theorem acts_holdExpiry (s : State) (id : Nat) : Acts s (s.holdExpiry id) := by
  unfold State.holdExpiry
  split
  · exact .refl
  · next p h =>
    split
    · next hold => exact acts_of_expiring h (playActs_endAction (play_of_expiring h) (by rw [hold]; rfl))
    · exact .refl

theorem acts_fadeStepExpiry (s : State) (id : Nat) : Acts s (s.fadeStepExpiry id) := by
  unfold State.fadeStepExpiry
  split
  · exact .refl
  · next p h =>
    split
    · exact acts_of_expiring h (playActs_fadeStep (play_of_expiring h) _ _)
    all_goals exact .refl

theorem acts_pinLow (s : State) : Acts s s.pinLow := by
  unfold State.pinLow
  split
  · exact .refl
  · split
    · exact .single (.reset s s.powered true .pin)
    · next unpowered => exact .single (.pinLow (by simpa using unpowered))

theorem acts_pinHigh (s : State) : Acts s s.pinHigh := by
  unfold State.pinHigh
  split
  · next low => exact .single (.pinHigh low)
  · exact .refl

theorem acts_loadEnd (s : State) : Acts s s.loadEnd := by
  unfold State.loadEnd
  split
  · next loading => exact .single (.loaded loading)
  · exact .refl

theorem acts_settleEnd (s : State) : Acts s s.settleEnd := by
  unfold State.settleEnd
  split
  · next settles =>
    exact (Relation.ReflTransGen.single (.entered settles
      (playActs_foldl _ (fun t cue => playActs_triggerReported (by decide)) _ _))).trans (acts_raise _ _)
  · exact .refl

theorem acts_watchdogExpiry (s : State) : Acts s s.watchdogExpiry := by
  unfold State.watchdogExpiry
  split
  · next out => exact .single (.fellBack out)
  · exact .refl

/-! ## The link and the Service Port -/

theorem acts_abandonFrame (s : State) : Acts s s.abandonFrame :=
  (acts_receiver s .hunting).trans (acts_raise _ _)

theorem acts_byteError (s : State) : Acts s s.byteError := by
  unfold State.byteError
  dsimp only
  split
  · exact (acts_startBitReceiving s).trans (acts_abandonFrame _)
  · exact acts_startBitReceiving s

theorem acts_gapExpiry (s : State) : Acts s s.gapExpiry := by
  unfold State.gapExpiry
  split
  · exact acts_abandonFrame s
  · exact .refl

theorem acts_otherFrame (s : State) (address : Byte) : Acts s (s.otherFrame address) := by
  unfold State.otherFrame
  dsimp only
  split
  · exact .refl
  · exact acts_hunting_after_startBit s

/-- What is heard on the line acts only where the line is heard. -/
theorem acts_if_heard {s t : State} (h : Acts s t) : Acts s (if s.lineHeard then t else s) := by
  split
  · exact h
  · exact .refl

theorem acts_startReply (s : State) : Acts s s.startReply := by
  unfold State.startReply
  split
  · exact acts_linkReply s _
  all_goals exact .refl

theorem acts_finishReply (s : State) : Acts s s.finishReply := by
  unfold State.finishReply
  split
  · exact (acts_receiver s .hunting).trans (acts_releaseReply _ _)
  all_goals exact .refl

theorem acts_startWrite (s : State) (target : BitVec 7) : Acts s (s.startWrite target) := by
  unfold State.startWrite
  dsimp only
  split
  · exact acts_servicePort s .preparing .acknowledged none s.serviceMode true s.spOut
  · exact acts_servicePort s (if s.spWrite = .acknowledged then .none else s.spReply) .refused none s.serviceMode false
      s.spOut

/-- What follows the end of a write touches the pending reply alone. -/
theorem acts_after_endWrite (s : State) (reply : SpReply) :
    Acts s (match s.endWrite with | (t, none) => t | (t, some _) => { t with spReply := reply }) := by
  have ended := acts_endWrite s
  split
  · next t h => rw [h] at ended; exact ended
  · next t o h =>
    rw [h] at ended
    exact ended.trans (acts_servicePort t reply t.spWrite t.spReading t.serviceMode t.spAck t.spOut)

theorem acts_startRead (s : State) (target : BitVec 7) (taken : ReadSpan) : Acts s (s.startRead target taken) := by
  unfold State.startRead
  dsimp only
  split
  · exact acts_servicePort s s.startCondition.spReply s.startCondition.spWrite _ s.serviceMode true _
  · exact acts_servicePort s s.startCondition.spReply s.startCondition.spWrite none s.serviceMode false []

theorem acts_readReply (s : State) (target : Option (BitVec 7)) (taken : ReadSpan) :
    Acts s (s.readReply target taken) := by
  unfold State.readReply
  split
  · exact acts_startRead s _ taken
  · split
    · exact .refl
    · exact acts_servicePort s s.spReply s.spWrite _ s.serviceMode s.spAck _

/-! ## Every command -/

theorem acts_reading (s : State) (via : Via) {α : Type} (operands : Option α) (act : α → State → Answer)
    (h : ∀ x t, (act x t).state = t) : Acts s (s.request .reading via fun _ t => readThen operands act t) :=
  acts_request s .reading via _ fun _ t _ => acts_readThen operands act t fun x _ => by rw [h x t]

/-- The state that a command leads to: none stops (log 26). -/
def after (i : Instr) (s : State) : State :=
  match exec i s with
  | .next t => t
  | .fault _ => s
  | .refused _ => s

/-- Every command answers a next state (log 26). -/
theorem exec_eq_after (i : Instr) (s : State) : exec i s = .next (after i s) := by cases i <;> rfl

theorem acts_after (i : Instr) (s : State) : Acts s (after i s) := by
  cases i with
  | readStatus via payload => exact acts_reading s via _ _ fun _ _ => rfl
  | readEvents via payload => exact acts_reading s via _ _ fun _ _ => rfl
  | readConfig via payload => exact acts_reading s via _ _ fun _ _ => rfl
  | readCue via payload => exact acts_reading s via _ _ fun _ _ => rfl
  | listCues via payload => exact acts_reading s via _ _ fun _ _ => rfl
  | findCue via payload => exact acts_reading s via _ _ fun _ _ => by split <;> rfl
  | listPlays via payload => exact acts_reading s via _ _ fun _ _ => rfl
  | queryPlay via payload => exact acts_reading s via _ _ fun _ _ => by split <;> rfl
  | queryChannel via payload => exact acts_reading s via _ _ fun _ _ => by split <;> rfl
  | readPattern via payload => exact acts_reading s via _ _ fun _ _ => by split <;> rfl
  | queryInputs via payload => exact acts_reading s via _ _ fun _ _ => rfl
  | writeCue via payload =>
    exact acts_request s .other via _ fun _ t _ => acts_editThen _ _ t fun _ hw => acts_writeCue t hw
  | setTrim via payload =>
    exact acts_request s .other via _ fun _ t running => acts_editThen _ _ t fun w _ => acts_setTrim running w
  | retireCue via payload =>
    exact acts_request s .other via _ fun _ t running => acts_editThen _ _ t fun w _ => acts_retireCue running w
  | trigger via payload =>
    exact acts_request s .other via _ fun o t running =>
      acts_readThen _ _ t fun _ hw => acts_triggerRequest running o hw
  | release via payload =>
    exact acts_request s .other via _ fun _ t running => acts_readThen _ _ t fun n _ => acts_releaseRequest running n
  | releaseAll via payload =>
    exact acts_request s .other via _ fun _ t running => acts_readThen _ _ t fun p _ => acts_releaseAll running p
  | freeze via payload =>
    exact acts_request s .other via _ fun _ t _ => acts_readThen _ _ t fun _ _ => .single (.froze t true)
  | thaw via payload =>
    exact acts_request s .other via _ fun _ t _ => acts_readThen _ _ t fun _ _ => .single (.froze t false)
  | writePattern via payload =>
    exact acts_request s .other via _ fun _ t _ => acts_editThen _ _ t fun w hw =>
      .single (.patternWritten t w.1 (readWritePattern_elements_ne_nil hw))
  | clearFault via payload =>
    exact acts_request s .other via _ fun _ t _ => acts_readThen _ _ t fun cs _ => .single (.channel (.clear t cs))
  | setConfig via payload =>
    exact acts_request s .other via _ fun o t running => acts_editThen _ _ t fun es hes =>
      .single (.configured o running hes)
  | save via payload =>
    exact acts_request s .other via _ fun o t _ => acts_readThen _ _ t fun _ _ => by
      split
      · exact .refl
      · exact .single (.saving t o.port)
  | snapshotResume via payload =>
    exact acts_request s .other via _ fun _ t _ => acts_readThen _ _ t fun _ _ => by
      split
      · exact .refl
      · exact .single (.snapshot t)
  | clearEvents via payload =>
    exact acts_request s .other via _ fun _ t _ => acts_readThen _ _ t fun named _ => .single (.cleared t named)
  | keepalive via payload => exact acts_request s .other via _ fun _ t _ => acts_readThen _ _ t fun _ _ => .refl
  | fallbackExit via payload =>
    exact acts_request s .linkOnly via _ fun _ t running =>
      acts_readThen _ _ t fun token _ => acts_fallbackExit running token
  | setServiceMode via payload =>
    exact acts_request s .linkOnly via _ fun _ t _ => acts_readThen _ _ t fun mode _ => acts_setServiceMode t mode
  | reset via payload =>
    exact acts_request s .linkOnly via _ fun o t _ => acts_readThen _ _ t fun _ _ => acts_resetRequest t o
  | badRequest via code => exact acts_request s .unknown via _ fun _ t _ => .refl
  | linkGapExpiry => exact acts_if_heard (acts_gapExpiry s)
  | linkByteError => exact acts_if_heard (acts_byteError s)
  | linkFrameCheckFailed => exact acts_if_heard ((acts_startBit s).trans (acts_abandonFrame _))
  | frameForAnotherUnit address => exact acts_if_heard (acts_otherFrame s address)
  | replyStart => exact acts_startReply s
  | replySent => exact acts_finishReply s
  | replyDropped => exact acts_startBitReceiving s
  | spWriteStart target => exact acts_startWrite s target
  | spBadFrame => exact acts_after_endWrite s _
  | spWriteAborted => exact acts_after_endWrite s _
  | spRead target taken => exact acts_readReply s target taken
  | delayExpiry id => exact acts_delayExpiry s id
  | rampStepExpiry id => exact acts_rampStepExpiry s id
  | holdExpiry id => exact acts_holdExpiry s id
  | fadeStepExpiry id => exact acts_fadeStepExpiry s id
  | watchdogExpiry => exact acts_watchdogExpiry s
  | faultConditionChange c cond present => exact .single (.channel (.condition s c cond present))
  | trip c cond => exact .single (.channel (.trip s c cond))
  | openLoadDetection c => exact .single (.channel (.openLoad s c))
  | retryExpiry c => exact .single (.channel (.retry s c))
  | goodRunExpiry c => exact .single (.channel (.goodRun s c))
  | temperatureSample degrees => exact .single (.channel (.sample s degrees))
  | rawLevelChange l level => exact acts_rawChange s l level
  | debounceExpiry l => exact acts_debounceExpiry s l
  | windowExpiry k => exact acts_windowExpiry s k
  | saveCompletion => exact .single (.saved s)
  | saveFailure => exact .single (.failed s)
  | powerReset => exact .single (.reset s true s.rstnLow .power)
  | rstnLow => exact acts_pinLow s
  | rstnHigh => exact acts_pinHigh s
  | imageLoadEnd => exact acts_loadEnd s
  | entryToRunning => exact acts_settleEnd s
  | powerLoss => exact .single (.reset s false s.rstnLow s.resetCause)
  | linkSyncByte => exact acts_if_heard ((acts_startBit s).trans (acts_receiver _ .receiving))

theorem acts_exec {i : Instr} {s t : State} (h : exec i s = .next t) : Acts s t := by
  rw [exec_eq_after, Host.Outcome.next.injEq] at h
  rw [← h]
  exact acts_after i s

/-- What the queue, the counter of the free value, time and every act keep, every step keeps. -/
theorem step_keeps {P : State → Prop} (queue : ∀ s rest, P s → P { s with pending := rest })
    (ties : ∀ s n, P s → P { s with ties := n }) (tick : ∀ s, s.stage ≠ .held → P s → P s.tick)
    (act : ∀ s t, Act s t → P s → P t) {s t : State} (h : step s = .next t) (hs : P s) : P t := by
  have acts {a b : State} (run : Acts a b) (ha : P a) : P b := by
    induction run with
    | refl => exact ha
    | tail _ one ih => exact act _ _ one ih
  unfold step at h
  split at h
  · unfold idle at h
    split at h
    · obtain rfl := Host.Outcome.next.inj h
      by_cases held : s.stage = .held
      · rw [tick_held s held]; exact hs
      · exact tick s held hs
    · exact acts (acts_exec h) (ties s _ hs)
  · exact acts (acts_exec h) (queue s _ hs)

end Sys2Proof.Machine
end

section
/-! What the acts write, and what an accepted SET_CONFIG puts into the items: the frames that the kept properties read. -/

namespace Sys2Proof.Machine

/-! ## Banks whose things all have a property -/

section Banks

variable {α β : Type} {k : Nat}

theorem at1_put1 (v : Vector α k) (n m : Nat) (x : α) :
    at1 (put1 v n x) m = if m = n ∧ 1 ≤ n ∧ n ≤ k then some x else at1 v m := by
  by_cases hm : m = n
  · subst hm
    by_cases range : 1 ≤ m ∧ m ≤ k
    · rw [at1_put1_same v m x range, if_pos ⟨rfl, range⟩]
    · have nothing (w : Vector α k) : at1 w m = none := by
        rw [← Option.not_isSome_iff_eq_none, at1_isSome_iff]; exact range
      rw [nothing, nothing, if_neg (fun both => range both.2)]
  · rw [at1_put1_other v n m x hm, if_neg (fun both => hm both.1)]

theorem forall_mem_put1 {P : α → Prop} {v : Vector α k} (h : ∀ x ∈ v.toList, P x) {n : Nat} {y : α} (hy : P y) :
    ∀ x ∈ (put1 v n y).toList, P x := by
  intro x hx
  obtain ⟨m, hm⟩ := (mem_toList_iff_at1 _ x).mp hx
  rw [at1_put1] at hm
  split at hm
  · rw [← Option.some.inj hm]; exact hy
  · exact h x ((mem_toList_iff_at1 v x).mpr ⟨m, hm⟩)

theorem forall_mem_mapBank {P : β → Prop} {v : Vector α k} {f : α → β} (h : ∀ x ∈ v.toList, P (f x)) :
    ∀ y ∈ (mapBank f v).toList, P y := by
  rw [toList_mapBank]
  exact List.forall_mem_map.mpr h

theorem forall_mem_mapBank1 {P : β → Prop} {v : Vector α k} {f : Nat → α → β}
    (h : ∀ n x, at1 v n = some x → P (f n x)) : ∀ y ∈ (mapBank1 f v).toList, P y := by
  intro y hy
  obtain ⟨n, hn⟩ := (mem_toList_iff_at1 _ y).mp hy
  rw [at1_mapBank1] at hn
  obtain ⟨x, hx, rfl⟩ := Option.map_eq_some_iff.mp hn
  exact h n x hx

theorem mem_of_at1 {v : Vector α k} {n : Nat} {x : α} (h : at1 v n = some x) : x ∈ v.toList :=
  (mem_toList_iff_at1 v x).mpr ⟨n, h⟩

end Banks

/-! ## The frames of the acts -/

/-- Nothing but the channel records, the flags and the Thermal Monitor differs. -/
def ChannelFrame (s t : State) : Prop := t = { s with channels := t.channels, flags := t.flags, thermal := t.thermal }

theorem channelFrame_onChannel (s : State) (c : Nat) {act : Channel → State} (h : ∀ x, ChannelFrame s (act x)) :
    ChannelFrame s (s.onChannel c act) := by
  unfold State.onChannel
  split
  · rfl
  · exact h _

theorem channelFrame_takeSample (s : State) (degrees : Int) : ChannelFrame s (s.takeSample degrees) := by
  unfold State.takeSample
  dsimp only
  split
  · rfl
  · unfold State.takeReading State.raiseOption
    dsimp only
    split <;> rfl

theorem ChannelAct.frame {s t : State} (h : ChannelAct s t) : ChannelFrame s t := by
  cases h with
  | condition => exact channelFrame_onChannel _ _ fun _ => rfl
  | trip => exact channelFrame_onChannel _ _ fun _ => by split <;> rfl
  | openLoad => exact channelFrame_onChannel _ _ fun _ => by split <;> rfl
  | retry => exact channelFrame_onChannel _ _ fun _ => by split <;> rfl
  | goodRun => exact channelFrame_onChannel _ _ fun _ => by split <;> rfl
  | clear => rfl
  | sample degrees =>
    unfold State.sample
    split
    · have taken := channelFrame_takeSample s degrees
      rw [drive_frame]
      unfold ChannelFrame at *
      rw [taken]
    · rfl

/-- Nothing but the items and what an accepted SET_CONFIG acts on differs. -/
def ConfigFrame (s t : State) : Prop :=
  t = { s with
    config := t.config, linkAddress := t.linkAddress, watchdog := t.watchdog, thermal := t.thermal, lines := t.lines,
    channels := t.channels }

theorem ConfigFrame.trans {s t u : State} (h₁ : ConfigFrame s t) (h₂ : ConfigFrame t u) : ConfigFrame s u := by
  unfold ConfigFrame at *
  rw [h₂, h₁]

theorem useAddress_frame (s : State) (es : List ConfigEntry) (o : Origin) :
    s.useAddress es o = { s with linkAddress := (s.useAddress es o).linkAddress } := by
  unfold State.useAddress; split <;> rfl

theorem useWatchdog_frame (s : State) (es : List ConfigEntry) :
    s.useWatchdog es = { s with watchdog := (s.useWatchdog es).watchdog } := by
  unfold State.useWatchdog; split <;> rfl

theorem useAveraging_frame (s : State) (es : List ConfigEntry) :
    s.useAveraging es = { s with thermal := (s.useAveraging es).thermal } := by
  unfold State.useAveraging; split <;> rfl

theorem useLines_frame (s : State) (es : List ConfigEntry) : s.useLines es = { s with lines := (s.useLines es).lines } := rfl

theorem useDeglitch_frame (s : State) (es : List ConfigEntry) :
    s.useDeglitch es = { s with channels := (s.useDeglitch es).channels } := by
  unfold State.useDeglitch; split <;> rfl

theorem useGoodRun_frame (s : State) (es : List ConfigEntry) :
    s.useGoodRun es = { s with channels := (s.useGoodRun es).channels } := by
  unfold State.useGoodRun; split <;> rfl

/-- The state of a SET_CONFIG once its items are set, before the lines, the outputs and the timers follow. -/
def State.configuredItems (s : State) (es : List ConfigEntry) (o : Origin) : State :=
  ((State.useAddress { s with config := s.config.applyAll es } es o).useWatchdog es).useAveraging es

theorem applyConfig_eq (s : State) (es : List ConfigEntry) (o : Origin) :
    s.applyConfig es o = (((s.configuredItems es o).useLines es).useDeglitch es).drive.useGoodRun es := by
  unfold State.applyConfig State.configuredItems
  rfl

theorem configuredItems_frame (s : State) (es : List ConfigEntry) (o : Origin) :
    s.configuredItems es o = { s with
      config := s.config.applyAll es, linkAddress := (s.configuredItems es o).linkAddress,
      watchdog := (s.configuredItems es o).watchdog, thermal := (s.configuredItems es o).thermal } := by
  unfold State.configuredItems
  rw [useAveraging_frame, useWatchdog_frame, useAddress_frame]

theorem applyConfig_frame (s : State) (es : List ConfigEntry) (o : Origin) :
    s.applyConfig es o = { s with
      config := s.config.applyAll es, linkAddress := (s.configuredItems es o).linkAddress,
      watchdog := (s.configuredItems es o).watchdog, thermal := (s.configuredItems es o).thermal,
      lines := ((s.configuredItems es o).useLines es).lines, channels := (s.applyConfig es o).channels } := by
  have frame := configuredItems_frame s es o
  have chain : ((s.configuredItems es o).useLines es).useDeglitch es = { s.configuredItems es o with
      lines := ((s.configuredItems es o).useLines es).lines,
      channels := (((s.configuredItems es o).useLines es).useDeglitch es).channels } := by
    rw [useDeglitch_frame]; rfl
  generalize ((s.configuredItems es o).useLines es).lines = lines at *
  rw [applyConfig_eq, useGoodRun_frame, chain, frame]
  rfl

/-- The watchdog is what it was, or it is started, or stopped, by the period now in force. -/
theorem configuredItems_watchdog (s : State) (es : List ConfigEntry) (o : Origin) :
    (s.configuredItems es o).watchdog =
      if touches es 0x10 ∨ touches es 0x11 then (State.resetWatchdog { s with config := s.config.applyAll es }).watchdog
      else s.watchdog := by
  unfold State.configuredItems
  rw [useAveraging_frame, useAddress_frame]
  unfold State.useWatchdog
  split <;> rfl

theorem configuredItems_thermal (s : State) (es : List ConfigEntry) (o : Origin) :
    (s.configuredItems es o).thermal = if touches es 0x38 then s.thermal.emptied else s.thermal := by
  unfold State.configuredItems State.useAveraging
  rw [useWatchdog_frame, useAddress_frame]
  split <;> rfl

theorem configuredItems_linkAddress (s : State) (es : List ConfigEntry) (o : Origin) :
    (s.configuredItems es o).linkAddress =
      if touches es 0x01 ∧ o ≠ .unicast then (s.config.applyAll es).unitAddress else s.linkAddress := by
  unfold State.configuredItems
  rw [useAveraging_frame, useWatchdog_frame]
  unfold State.useAddress
  split <;> rfl

/-- The exit from fallback is a run of play acts on a part whose flag is off, and then a refresh of the watchdog (07 R159). -/
theorem exitFallback_eq (s : State) :
    s.exitFallback = (State.releasePlay { s with fallbackOn := false } 24).startWatchdog := rfl

/-- The entry's first five steps (07 R151). -/
def State.fallbackEntered (s : State) : State :=
  State.raise { s with fallbackOn := true, entryCount := s.entryCount + 1, frozen := false, watchdog := none }
    .fallbackEntered

theorem enterFallback_eq (s : State) : s.enterFallback = s.fallbackEntered.settleFallback := rfl

theorem playActs_enterFallback (s : State) : PlayActs s.fallbackEntered s.enterFallback := playActs_settleFallback rfl

theorem playActs_exitFallback (s : State) :
    PlayActs { s with fallbackOn := false } (State.releasePlay { s with fallbackOn := false } 24) :=
  playActs_releasePlay _ 24

theorem exitFallback_frame (s : State) :
    s.exitFallback = { s with
      fallbackOn := false, watchdog := s.exitFallback.watchdog, slots := s.exitFallback.slots,
      plays := s.exitFallback.plays, claims := s.exitFallback.claims, flags := s.exitFallback.flags,
      lastRefusal := s.exitFallback.lastRefusal, lastEviction := s.exitFallback.lastEviction } := by
  have frame := (playActs_exitFallback s).frame
  rw [exitFallback_eq, startWatchdog_frame, frame]

theorem enterFallback_frame (s : State) :
    s.enterFallback = { s with
      fallbackOn := true, entryCount := s.entryCount + 1, frozen := false, watchdog := none,
      slots := s.enterFallback.slots, plays := s.enterFallback.plays, claims := s.enterFallback.claims,
      flags := s.enterFallback.flags, lastRefusal := s.enterFallback.lastRefusal,
      lastEviction := s.enterFallback.lastEviction } := by
  have frame := (playActs_enterFallback s).frame
  unfold PlayFrame at frame
  rw [frame]
  rfl

/-- The image that the end of the load takes: the stored one under a good check word, else the factory image (10 R183). -/
def State.imageToLoad (s : State) : Image := if s.checkGood then s.image else Image.factory

/-- What the end of the load writes beside the tables (10 R183). -/
theorem endLoad_frame (s : State) :
    s.endLoad = { s.loadTables s.imageToLoad with imageValid := s.endLoad.imageValid, flags := s.endLoad.flags } := by
  unfold State.endLoad State.imageToLoad
  split <;> rfl

theorem endLoad_flags (s : State) : s.endLoad.flags = if s.checkGood then s.flags else s.flags ||| 0x1000 := by
  unfold State.endLoad
  split <;> rfl

theorem endLoad_imageValid (s : State) : s.endLoad.imageValid = s.checkGood := by
  unfold State.endLoad
  split
  · next good => exact good.symm
  · next bad => exact (Bool.eq_false_iff.mpr bad).symm

/-- A property of the stored image and of the factory image is one of the image that is loaded. -/
theorem imageToLoad_of_held {P : Image → Prop} {s : State} (factory : P Image.factory)
    (held : ∀ m ∈ s.heldImages, P m) : P s.imageToLoad := by
  unfold State.imageToLoad
  split
  · exact held _ List.mem_cons_self
  · exact factory

/-! ## The images that the part holds -/

theorem forall_heldImages_iff {P : Image → Prop} (s : State) : (∀ m ∈ s.heldImages, P m) ↔
    P s.image ∧ ∀ owner contents, s.store = .saving owner contents → P contents := by
  unfold State.heldImages
  cases s.store <;> simp

theorem heldImages_congr {s t : State} (image : t.image = s.image) (store : t.store = s.store) :
    t.heldImages = s.heldImages := by
  unfold State.heldImages
  rw [image, store]

/-- A store that is IDLE holds no second image. -/
theorem forall_heldImages_of_idle {P : Image → Prop} {s t : State} (h : ∀ m ∈ s.heldImages, P m)
    (image : t.image = s.image) (store : t.store = .idle) : ∀ m ∈ t.heldImages, P m := by
  rw [forall_heldImages_iff, image, store]
  exact ⟨((forall_heldImages_iff s).mp h).1, fun _ _ no => nomatch no⟩

theorem storeIdle_frame (s : State) :
    s.storeIdle = { s with
      store := .idle, serviceMode := s.storeIdle.serviceMode, spReply := s.storeIdle.spReply,
      spReading := s.storeIdle.spReading } := by
  unfold State.storeIdle
  split <;> rfl

/-- A completed save puts the contents that it wrote into the image (10 R179). -/
theorem saveCompletion_frame (s : State) : s.saveCompletion = { s with
      store := .idle, image := s.saveCompletion.image, checkGood := s.saveCompletion.checkGood,
      imageValid := s.saveCompletion.imageValid, serviceMode := s.saveCompletion.serviceMode,
      spReply := s.saveCompletion.spReply, spReading := s.saveCompletion.spReading, flags := s.saveCompletion.flags } := by
  unfold State.saveCompletion
  split
  · next idle => rw [← idle]
  · rw [storeIdle_frame]; rfl

theorem saveFailure_frame (s : State) : s.saveFailure = { s with
      store := .idle, serviceMode := s.saveFailure.serviceMode, spReply := s.saveFailure.spReply,
      spReading := s.saveFailure.spReading, flags := s.saveFailure.flags } := by
  unfold State.saveFailure
  split
  · next idle => rw [← idle]
  · rw [storeIdle_frame]; rfl

theorem image_saveCompletion {P : Image → Prop} {s : State} (h : ∀ m ∈ s.heldImages, P m) :
    P s.saveCompletion.image := by
  obtain ⟨stored, written⟩ := (forall_heldImages_iff s).mp h
  unfold State.saveCompletion
  split
  · exact stored
  · next owner contents saving =>
    rw [storeIdle_frame]
    exact written owner contents saving

theorem forall_heldImages_saveCompletion {P : Image → Prop} {s : State} (h : ∀ m ∈ s.heldImages, P m) :
    ∀ m ∈ s.saveCompletion.heldImages, P m := by
  have idle : s.saveCompletion.store = .idle := by rw [saveCompletion_frame]
  rw [forall_heldImages_iff, idle]
  exact ⟨image_saveCompletion h, fun _ _ no => nomatch no⟩

theorem forall_heldImages_saveFailure {P : Image → Prop} {s : State} (h : ∀ m ∈ s.heldImages, P m) :
    ∀ m ∈ s.saveFailure.heldImages, P m :=
  forall_heldImages_of_idle h (by rw [saveFailure_frame]) (by rw [saveFailure_frame])

/-- A save that begins adds the contents that it will write. -/
theorem forall_heldImages_startSave {P : Image → Prop} {s : State} (owner : Port) (h : ∀ m ∈ s.heldImages, P m)
    (contents : P s.imageContents) : ∀ m ∈ (s.startSave owner).heldImages, P m := by
  rw [forall_heldImages_iff]
  refine ⟨((forall_heldImages_iff s).mp h).1, fun _ _ saving => ?_⟩
  cases saving
  exact contents

/-! ## The items after a SET_CONFIG -/

theorem touches_iff (es : List ConfigEntry) (code : Nat) : touches es code = true ↔ code ∈ es.map ConfigEntry.code := by
  simp [touches]

/-- What a table of items says of one field stands where no entry has the field's code. -/
theorem applyAll_keeps {α : Type} (field : Items → α) {code : Nat}
    (other : ∀ i e, ConfigEntry.code e ≠ code → field (i.apply e) = field i) (i : Items) {es : List ConfigEntry}
    (h : code ∉ es.map ConfigEntry.code) : field (i.applyAll es) = field i := by
  induction es generalizing i with
  | nil => rfl
  | cons e es ih =>
    simp only [List.map_cons, List.mem_cons, not_or] at h
    exact (ih (i.apply e) h.2).trans (other i e (Ne.symm h.1))

/-- What every entry keeps, all of them keep. -/
theorem applyAll_induction {P : Items → Prop} {es : List ConfigEntry} (entry : ∀ e ∈ es, ∀ i, P i → P (i.apply e))
    {i : Items} (hi : P i) : P (i.applyAll es) := by
  induction es generalizing i with
  | nil => exact hi
  | cons e es ih =>
    exact ih (fun e he => entry e (List.mem_cons_of_mem _ he)) (entry e List.mem_cons_self i hi)

theorem averaging_applyAll (i : Items) {es : List ConfigEntry} (h : 0x38 ∉ es.map ConfigEntry.code) :
    (i.applyAll es).averaging = i.averaging :=
  applyAll_keeps Items.averaging (fun i e he => by cases e <;> first | rfl | exact absurd rfl he) i h

theorem watchdogPeriod_applyAll (i : Items) {es : List ConfigEntry} (h : 0x10 ∉ es.map ConfigEntry.code) :
    (i.applyAll es).watchdogPeriod = i.watchdogPeriod :=
  applyAll_keeps Items.watchdogPeriod (fun i e he => by cases e <;> first | rfl | exact absurd rfl he) i h

/-- The ranges of Table 9.8 that the kept properties read: max retries 0..7, and bit 15 of an event set clear. -/
def ConfigEntry.InRange : ConfigEntry → Prop
  | .maxRetries v => v ≤ 7
  | .attentionMask v => v.msb = false
  | _ => True

theorem readEventSet_msb {hi lo : Byte} {v : EventSet} (h : readEventSet hi lo = some v) : v.msb = false := by
  unfold readEventSet at h
  split at h
  · exact absurd h (by simp)
  · next clear =>
    rw [← Option.some.inj h]
    rw [BitVec.msb_append]
    simpa using clear

/-- A reader that gives only entries in range. -/
def GivesInRange (operand : Option ConfigEntry) : Prop := ∀ e, operand = some e → e.InRange

theorem givesInRange_none : GivesInRange none := fun _ h => nomatch h

theorem givesInRange_some {e : ConfigEntry} (h : e.InRange) : GivesInRange (some e) := fun _ he => Option.some.inj he ▸ h

theorem givesInRange_map {α : Type} {operand : Option α} {entry : α → ConfigEntry}
    (h : ∀ v, operand = some v → (entry v).InRange) : GivesInRange (operand.map entry) := by
  intro e he
  obtain ⟨v, hv, rfl⟩ := Option.map_eq_some_iff.mp he
  exact h v hv

theorem givesInRange_ite {c : Prop} [Decidable c] {a b : Option ConfigEntry} (ha : GivesInRange a)
    (hb : GivesInRange b) : GivesInRange (if c then a else b) := by
  split
  · exact ha
  · exact hb

theorem readItem_inRange (code : Nat) (b : Byte) : GivesInRange (readItem code b) := by
  unfold readItem
  repeat' apply givesInRange_ite
  all_goals first
    | exact givesInRange_map fun _ _ => trivial
    | exact givesInRange_map fun _ hv => (readRange_le hv).2
    | exact givesInRange_some trivial
    | exact givesInRange_none

theorem readGroups_eq_some {bs : List Byte} {r : ConfigEntry × List Byte} (h : readGroups bs = some r) :
    ∃ addresses, r.1 = .groups addresses := by
  unfold readGroups at h
  split at h
  · exact absurd h (by simp)
  · dsimp only at h
    split at h
    · exact ⟨_, by rw [← Option.some.inj h]⟩
    · exact absurd h (by simp)

theorem readEntry_inRange {bs : List Byte} {r : ConfigEntry × List Byte} (h : readEntry bs = some r) : r.1.InRange := by
  unfold readEntry at h
  split at h
  · exact absurd h (by simp)
  · split at h
    · obtain ⟨addresses, entry⟩ := readGroups_eq_some h
      rw [entry]
      trivial
    · split at h
      · split at h
        · obtain ⟨v, hv, rfl⟩ := Option.map_eq_some_iff.mp h
          exact readEventSet_msb hv
        · exact absurd h (by simp)
      · split at h
        · obtain ⟨e, he, rfl⟩ := Option.map_eq_some_iff.mp h
          exact readItem_inRange _ _ e he
        · exact absurd h (by simp)

theorem readEntriesList_inRange {fuel : Nat} {bs : List Byte} {es : List ConfigEntry}
    (h : readEntriesList fuel bs = some es) : ∀ e ∈ es, e.InRange := by
  induction fuel generalizing bs es with
  | zero =>
    cases bs with
    | nil => cases h; simp
    | cons b bs => exact absurd h (by simp [readEntriesList])
  | succ fuel ih =>
    cases bs with
    | nil => cases h; simp
    | cons b bs =>
      unfold readEntriesList at h
      split at h
      · exact absurd h (by simp)
      · next e rest he =>
        obtain ⟨tail, ht, rfl⟩ := Option.map_eq_some_iff.mp h
        exact List.forall_mem_cons.mpr ⟨readEntry_inRange he, ih ht⟩

/-- An accepted SET_CONFIG has entries, no item twice, and thresholds that agree once it is applied (09 R175, 05 R122). -/
theorem readSetConfig_spec {i : Items} {bs : List Byte} {es : List ConfigEntry} (h : readSetConfig i bs = some es) :
    readEntriesList bs.length bs = some es ∧ es ≠ [] ∧ (es.map ConfigEntry.code).Nodup ∧
      (i.applyAll es).thresholdsOk = true := by
  unfold readSetConfig at h
  split at h
  · exact absurd h (by simp)
  · next es' hes =>
    split at h
    · next both =>
      obtain rfl := Option.some.inj h
      exact ⟨hes, both⟩
    · exact absurd h (by simp)

theorem readSetConfig_inRange {i : Items} {bs : List Byte} {es : List ConfigEntry} (h : readSetConfig i bs = some es) :
    ∀ e ∈ es, e.InRange := readEntriesList_inRange (readSetConfig_spec h).1

theorem maxRetries_applyAll {i : Items} {es : List ConfigEntry} (range : ∀ e ∈ es, e.InRange) (h : i.maxRetries ≤ 7) :
    (i.applyAll es).maxRetries ≤ 7 :=
  applyAll_induction (P := fun i => i.maxRetries ≤ 7)
    (fun e he i hi => by cases e <;> first | exact hi | exact range _ he) h

theorem attentionMask_applyAll {i : Items} {es : List ConfigEntry} (range : ∀ e ∈ es, e.InRange)
    (h : i.attentionMask.msb = false) : (i.applyAll es).attentionMask.msb = false :=
  applyAll_induction (P := fun i => i.attentionMask.msb = false)
    (fun e he i hi => by cases e <;> first | exact hi | exact range _ he) h

end Sys2Proof.Machine
end

section
/-! The small kept properties: the patterns, the lines, the watchdog, the accumulator, the event sets and the resume sets. -/

namespace Sys2Proof.Machine

/-! ## Patterns (06 R131 to R135) -/

/-- What 06 section 6.2 says of one pattern slot. -/
def Pattern.Kept (x : Pattern) : Prop :=
  (x.progress < x.record.elements.length ∧ (x.record.enabled = false → x.progress = 0)) ∧
    (x.window.isSome = true ↔ 1 ≤ x.progress)

def Image.PatternsOk (m : Image) : Prop := ∀ r ∈ m.patterns.toList, r.elements ≠ []

/-- The two pattern properties, said of each slot and of each image. -/
def MatchesKept (s : State) : Prop := (∀ x ∈ s.patterns.toList, x.Kept) ∧ ∀ m ∈ s.heldImages, m.PatternsOk

theorem matchesKept_iff (s : State) : MatchesKept s ↔ PatternsKept s ∧ WindowsKept s :=
  ⟨fun ⟨hx, hm⟩ => ⟨⟨fun x h => (hx x h).1, hm⟩, fun x h => (hx x h).2⟩,
    fun ⟨⟨hx, hm⟩, hw⟩ => ⟨fun x h => ⟨hx x h, hw x h⟩, hm⟩⟩

theorem matchesKept_congr {s t : State} (h : MatchesKept s) (patterns : t.patterns = s.patterns)
    (image : t.image = s.image) (store : t.store = s.store) : MatchesKept t := by
  unfold MatchesKept
  rw [patterns, heldImages_congr image store]
  exact h

theorem kept_idle {r : PatternRecord} (h : r.elements ≠ []) : (Pattern.idle r).Kept :=
  ⟨⟨List.length_pos_iff.mpr h, fun _ => rfl⟩, by simp [Pattern.idle]⟩

theorem Pattern.Kept.elements_ne_nil {x : Pattern} (h : x.Kept) : x.record.elements ≠ [] :=
  List.length_pos_iff.mp (Nat.zero_lt_of_lt h.1.1)

theorem Pattern.Kept.clear {x : Pattern} (h : x.Kept) : x.clear.Kept := kept_idle h.elements_ne_nil

/-- A match that goes on has an element left to wait for; one that starts afresh at its first element was further on, and so
its pattern has a second one. -/
theorem Pattern.Kept.offer {x : Pattern} (h : x.Kept) (e : InputEvent) : (x.offer e).Kept := by
  obtain ⟨⟨below, disabled⟩, running⟩ := h
  unfold Pattern.offer
  split
  · exact ⟨⟨below, disabled⟩, running⟩
  · next enabled =>
    have on : x.record.enabled = true := by simpa using enabled
    split
    · next equals =>
      split
      · exact Pattern.Kept.clear ⟨⟨below, disabled⟩, running⟩
      · next more =>
        refine ⟨⟨?_, fun off => absurd on (by simp [show x.record.enabled = false from off])⟩, ?_⟩
        · show x.progress + 1 < x.record.elements.length
          omega
        · by_cases first : x.progress = 0
          · simp [first]
          · simp only [if_neg first, running]
            omega
    · next differs =>
      split
      · next restarts =>
        have further : x.progress ≠ 0 := by
          intro first
          rw [first, ← List.head?_eq_getElem?] at differs
          exact differs restarts
        refine ⟨⟨?_, fun off => absurd on (by simp [show x.record.enabled = false from off])⟩, by simp⟩
        show 1 < x.record.elements.length
        omega
      · exact Pattern.Kept.clear ⟨⟨below, disabled⟩, running⟩

theorem patternsOk_factory : Image.factory.PatternsOk := by
  have one : PatternRecord.factory.elements ≠ [] := by decide
  intro r hr
  simp only [Image.factory, Vector.toList_replicate, List.mem_replicate] at hr
  rw [hr.2]
  exact one

theorem patternsOk_imageContents {s : State} (h : ∀ x ∈ s.patterns.toList, x.Kept) : s.imageContents.PatternsOk :=
  forall_mem_mapBank fun x hx => (h x hx).elements_ne_nil

theorem matchesKept_act {s t : State} (act : Act s t) (h : MatchesKept s) : MatchesKept t := by
  obtain ⟨slots, images⟩ := h
  have kept : MatchesKept s := ⟨slots, images⟩
  cases act with
  | ports | raised | cleared | wrote | froze | rawMoved | debounced | snapshot | pinLow | pinHigh => exact kept
  | refreshed => rw [startWatchdog_frame]; exact kept
  | reset =>
    exact ⟨forall_mem_mapBank fun x hx => (slots x hx).clear, forall_heldImages_of_idle images rfl rfl⟩
  | loaded =>
    rw [endLoad_frame]
    exact ⟨forall_mem_mapBank fun r hr => kept_idle (imageToLoad_of_held patternsOk_factory images r hr), images⟩
  | entered _ run =>
    have frame := run.frame
    exact matchesKept_congr (s := s) kept (frame.patterns.trans (by rw [startWatchdog_frame]; rfl))
      (frame.image.trans (by rw [startWatchdog_frame]; rfl)) (frame.store.trans (by rw [startWatchdog_frame]; rfl))
  | played _ run =>
    exact matchesKept_congr (s := s) kept run.frame.patterns run.frame.image run.frame.store
  | offered e => exact ⟨forall_mem_mapBank fun x hx => (slots x hx).offer e, images⟩
  | patternWritten k record => exact ⟨forall_mem_put1 slots (kept_idle record), images⟩
  | windowOut hx => exact ⟨forall_mem_put1 slots (slots _ (mem_of_at1 hx)).clear, images⟩
  | channel one => rw [one.frame]; exact kept
  | configured => rw [applyConfig_frame]; exact kept
  | saving owner => exact ⟨slots, forall_heldImages_startSave owner images (patternsOk_imageContents slots)⟩
  | saved => exact ⟨by rw [saveCompletion_frame]; exact slots, forall_heldImages_saveCompletion images⟩
  | failed => exact ⟨by rw [saveFailure_frame]; exact slots, forall_heldImages_saveFailure images⟩
  | exited => rw [exitFallback_frame]; exact kept
  | fellBack => rw [enterFallback_frame]; exact kept

theorem matchesKept_tick {s : State} (h : MatchesKept s) : MatchesKept s.tick := by
  obtain ⟨slots, images⟩ := h
  unfold State.tick
  split
  · exact ⟨slots, images⟩
  · rw [tickPlays_frame]
    refine ⟨forall_mem_mapBank fun x hx => ?_, images⟩
    obtain ⟨bounds, running⟩ := slots x hx
    exact ⟨bounds, (by rw [← running]; simp [countDown_isSome])⟩

/-- Settles O58: the match state of a slot is kept by an event, a clear and a new record, and an image never lacks elements. -/
theorem everyStepKeepsThePatternMatches : Obligations.EveryStepKeepsThePatternMatches := by
  intro s t patterns windows h
  exact (matchesKept_iff t).mp <| step_keeps (P := MatchesKept) (fun _ _ hs => hs) (fun _ _ hs => hs)
    (fun _ _ hs => matchesKept_tick hs) (fun _ _ act hs => matchesKept_act act hs) h
    ((matchesKept_iff s).mpr ⟨patterns, windows⟩)

end Sys2Proof.Machine
end

section
/-! The part held in reset, the input lines and the watchdog, and the small tables, kept by every step. -/

namespace Sys2Proof.Machine

/-! ## The part held in reset (10 R180, R182) -/

theorem stage_ne_held_powered {s : State} (h : HeldKept s) (stage : s.stage ≠ .held) :
    s.rstnLow = false ∧ s.powered = true := by
  by_contra bad
  refine stage (h ?_)
  cases low : s.rstnLow with
  | true => exact .inl rfl
  | false => exact .inr (by simpa [low] using bad)

theorem heldKept_congr {s t : State} (h : HeldKept s) (low : t.rstnLow = s.rstnLow) (powered : t.powered = s.powered)
    (stage : t.stage = s.stage) : HeldKept t := by
  unfold HeldKept
  rw [low, powered, stage]
  exact h

/-- A part that is loading or settling is supplied with RSTN high, whatever stage it goes to. -/
theorem heldKept_of_live {s t : State} (h : HeldKept s) (stage : s.stage ≠ .held) (low : t.rstnLow = s.rstnLow)
    (powered : t.powered = s.powered) : HeldKept t := by
  obtain ⟨high, supplied⟩ := stage_ne_held_powered h stage
  intro held
  rw [low, powered, high, supplied] at held
  simp at held

theorem PlayFrame.rstnLow {s t : State} (h : PlayFrame s t) : t.rstnLow = s.rstnLow := by rw [h]

theorem PlayFrame.powered {s t : State} (h : PlayFrame s t) : t.powered = s.powered := by rw [h]

theorem stage_ne_held_of_settles {s : State} (h : s.stage.settles = true) : s.stage ≠ .held := by
  intro held
  rw [held] at h
  exact nomatch h

theorem heldKept_partReset (s : State) (cause : ResetCause) : HeldKept (s.partReset cause) := by
  intro held
  have test : (s.rstnLow || !s.powered) = true := by
    rcases held with low | unpowered
    · exact Bool.or_eq_true_iff.mpr (.inl low)
    · exact Bool.or_eq_true_iff.mpr (.inr (by rw [show s.powered = false from unpowered]; rfl))
  exact if_pos test

theorem heldKept_act {s t : State} (act : Act s t) (h : HeldKept s) : HeldKept t := by
  cases act with
  | ports | raised | cleared | wrote | froze | offered | patternWritten | windowOut | rawMoved | debounced | saving
  | snapshot => exact h
  | refreshed => rw [startWatchdog_frame]; exact h
  | reset => exact heldKept_partReset _ _
  | pinLow unpowered => exact fun _ => h (.inr unpowered)
  | pinHigh =>
    rintro (low | unpowered)
    · exact nomatch low
    · exact if_neg (ne_true_of_eq_false unpowered)
  | loaded loading =>
    refine heldKept_of_live h (by rw [loading]; exact nofun) ?_ ?_
    all_goals rw [endLoad_frame]; rfl
  | entered settles run =>
    refine heldKept_of_live h (stage_ne_held_of_settles settles) (run.frame.rstnLow.trans ?_) (run.frame.powered.trans ?_)
    all_goals rw [startWatchdog_frame]; rfl
  | played _ run => exact heldKept_congr (s := s) h run.frame.rstnLow run.frame.powered run.frame.stage
  | channel one => rw [one.frame]; exact h
  | configured => rw [applyConfig_frame]; exact h
  | saved => rw [saveCompletion_frame]; exact h
  | failed => rw [saveFailure_frame]; exact h
  | exited => rw [exitFallback_frame]; exact h
  | fellBack => rw [enterFallback_frame]; exact h

theorem tick_stage (s : State) : s.tick.stage = s.stage.tick := by
  unfold State.tick
  split
  · next held => rw [held]; rfl
  · rw [tickPlays_frame]

theorem heldKept_tick {s : State} (stage : s.stage ≠ .held) (h : HeldKept s) : HeldKept s.tick :=
  heldKept_of_live h stage (by rw [tick_frame]) (by rw [tick_frame])

theorem heldKept_step {s t : State} (h : HeldKept s) (one : step s = .next t) : HeldKept t :=
  step_keeps (P := HeldKept) (fun _ _ hs => hs) (fun _ _ hs => hs) (fun _ stage hs => heldKept_tick stage hs)
    (fun _ _ act hs => heldKept_act act hs) one h

/-! ## Lines and watchdog (06 R126 to R128, 07 R147) -/

/-- A line of the part, watched or not. -/
def Line.Kept (x : Line) (watched : Bool) : Prop :=
  if watched then x.accepted.isSome = true ∧ (x.timer.isSome = true ↔ x.accepted ≠ some x.raw)
  else x.accepted = none ∧ x.timer = none

theorem linesKept_iff (s : State) : LinesKept s ↔ ∀ l x, s.line l = some x → x.Kept (s.watches l) := by
  constructor
  · intro h l x hx
    refine h l ?_ x hx
    have range := (at1_isSome_iff s.lines l).mp (by rw [show at1 s.lines l = some x from hx]; rfl)
    exact List.mem_range'_1.mpr ⟨range.1, by omega⟩
  · exact fun h l _ x hx => h l x hx

theorem watches_congr {s t : State} (stage : t.stage = s.stage) (items : t.config.lines = s.config.lines) (l : Nat) :
    t.watches l = s.watches l := by
  unfold State.watches State.running State.lineItems
  rw [stage, items]

theorem watches_stopped {s : State} (h : s.stage ≠ .running) (l : Nat) : s.watches l = false := by
  simp [State.watches, State.running, h]

theorem linesKept_congr {s t : State} (h : LinesKept s) (lines : t.lines = s.lines) (stage : t.stage = s.stage)
    (items : t.config.lines = s.config.lines) : LinesKept t := by
  rw [linesKept_iff] at *
  intro l x hx
  rw [watches_congr stage items]
  exact h l x (by rw [State.line, lines] at hx; exact hx)

/-- Where the part is not RUNNING no line is watched, whatever its items. -/
theorem linesKept_stopped {s t : State} (h : LinesKept s) (lines : t.lines = s.lines) (before : s.stage ≠ .running)
    (now : t.stage ≠ .running) : LinesKept t := by
  rw [linesKept_iff] at *
  intro l x hx
  have kept := h l x (by rw [State.line, lines] at hx; exact hx)
  rw [watches_stopped before] at kept
  rw [watches_stopped now]
  exact kept

theorem linesKept_setLine {s : State} (h : LinesKept s) {l : Nat} {y : Line} (hy : y.Kept (s.watches l)) :
    LinesKept (s.setLine l y) := by
  rw [linesKept_iff] at *
  intro m x hx
  have read : (if m = l ∧ 1 ≤ l ∧ l ≤ 8 then some y else s.line m) = some x := by rw [← hx]; exact (at1_put1 _ _ _ _).symm
  split at read
  · next same =>
    obtain rfl := Option.some.inj read
    obtain rfl := same.1
    exact hy
  · exact h m x read

/-- A line that takes its raw level as accepted, or none where its items disable it (06 R126, R128). -/
theorem kept_rebase (x : Line) (enabled : Bool) : (x.rebase enabled).Kept enabled := by
  cases enabled <;> simp [Line.Kept, Line.rebase]

theorem linesKept_rebased {s : State} (running : s.running = true) (named : Nat → Bool)
    (others : ∀ l x, s.line l = some x → named l = false → x.Kept (s.watches l)) :
    LinesKept { s with lines := mapBank1 (fun l x => if named l then x.rebase (s.lineItems l).enabled else x) s.lines } := by
  rw [linesKept_iff]
  intro l y hy
  have watched : s.watches l = (s.lineItems l).enabled := by simp [State.watches, running]
  obtain ⟨x, hx, rfl⟩ := Option.map_eq_some_iff.mp ((at1_mapBank1 _ s.lines l).symm.trans hy)
  show Line.Kept _ (s.watches l)
  cases hn : named l with
  | true => rw [if_pos rfl, watched]; exact kept_rebase x _
  | false => exact others l x hx hn

theorem touches_eq_false_iff (es : List ConfigEntry) (code : Nat) :
    touches es code = false ↔ code ∉ es.map ConfigEntry.code := by rw [← touches_iff, Bool.not_eq_true]

/-- The items of a line that no entry names stand (06 R128). -/
theorem lineItems_applyAll {i : Items} {es : List ConfigEntry} {l : Nat} (h : touchesLine es l = false) :
    at1 (i.applyAll es).lines l = at1 i.lines l := by
  simp only [touchesLine, Bool.or_eq_false_iff, touches_eq_false_iff] at h
  obtain ⟨⟨enabled, active⟩, debounce⟩ := h
  refine applyAll_induction (P := fun j => at1 j.lines l = at1 i.lines l) (fun e he j hj => ?_) rfl
  have code := List.mem_map_of_mem (f := ConfigEntry.code) he
  cases e with
  | lineEnabled m v => rw [← hj]; exact at1_put1_other _ _ _ _ (by rintro rfl; exact enabled code)
  | lineActive m v => rw [← hj]; exact at1_put1_other _ _ _ _ (by rintro rfl; exact active code)
  | lineDebounce m v => rw [← hj]; exact at1_put1_other _ _ _ _ (by rintro rfl; exact debounce code)
  | _ => exact hj

theorem linesKept_applyConfig {s : State} (running : s.running = true) (es : List ConfigEntry) (o : Origin)
    (h : LinesKept s) : LinesKept (s.applyConfig es o) := by
  have frame := configuredItems_frame s es o
  have lines : (s.configuredItems es o).lines = s.lines := by rw [frame]
  have config : (s.configuredItems es o).config = s.config.applyAll es := by rw [frame]
  have stage : (s.configuredItems es o).stage = s.stage := by rw [frame]
  have run : (s.configuredItems es o).running = true := by rw [State.running, stage]; exact running
  have rebased : LinesKept ((s.configuredItems es o).useLines es) := by
    refine linesKept_rebased run (touchesLine es) fun l x hx untouched => ?_
    have items : (s.configuredItems es o).watches l = s.watches l := by
      unfold State.watches State.running State.lineItems
      rw [stage, config, lineItems_applyAll untouched]
    rw [items]
    exact (linesKept_iff s).mp h l x (by rw [State.line, lines] at hx; exact hx)
  rw [applyConfig_frame]
  exact linesKept_congr rebased rfl stage.symm (congrArg Items.lines config.symm)

theorem linesKept_act {s t : State} (act : Act s t) (held : HeldKept s) (h : LinesKept s) : LinesKept t := by
  cases act with
  | ports | raised | cleared | wrote | froze | offered | patternWritten | windowOut | saving | snapshot | pinLow => exact h
  | refreshed => rw [startWatchdog_frame]; exact h
  | reset powered rstnLow cause =>
    rw [linesKept_iff]
    intro l y hy
    have read : at1 (mapBank (fun x => Line.initial x.raw) s.lines) l = some y := hy
    rw [at1_mapBank] at read
    obtain ⟨x, -, rfl⟩ := Option.map_eq_some_iff.mp read
    rw [watches_stopped (by show (if _ then Stage.held else Stage.loading) ≠ _; split <;> exact nofun)]
    exact ⟨rfl, rfl⟩
  | pinHigh low =>
    refine linesKept_stopped h rfl (by rw [held (.inl low)]; exact nofun) ?_
    show (if _ then Stage.loading else Stage.held) ≠ _
    split <;> exact nofun
  | loaded loading =>
    rw [endLoad_frame]
    exact linesKept_stopped h rfl (by rw [loading]; exact nofun) nofun
  | entered settles run =>
    refine linesKept_congr (s := State.acceptLines { s with stage := .running }) ?_ ?_ ?_ ?_
    · exact linesKept_rebased (s := { s with stage := .running }) rfl (fun _ => true) (fun _ _ _ no => nomatch no)
    · exact run.frame.lines.trans (by rw [startWatchdog_frame])
    · exact run.frame.stage.trans (by rw [startWatchdog_frame])
    · exact (congrArg Items.lines run.frame.config).trans (by rw [startWatchdog_frame])
  | played _ run =>
    exact linesKept_congr (s := s) h run.frame.lines run.frame.stage (congrArg Items.lines run.frame.config)
  | rawMoved raw hx unwatched =>
    refine linesKept_setLine h ?_
    have kept := (linesKept_iff s).mp h _ _ hx
    rw [unwatched] at *
    exact kept
  | debounced hx watched accepted timer =>
    refine linesKept_setLine h ?_
    have kept := (linesKept_iff s).mp h _ _ hx
    rw [watched] at *
    exact ⟨accepted kept.1, timer⟩
  | channel one => rw [one.frame]; exact h
  | configured o running => exact linesKept_applyConfig running _ o h
  | saved => rw [saveCompletion_frame]; exact h
  | failed => rw [saveFailure_frame]; exact h
  | exited => rw [exitFallback_frame]; exact h
  | fellBack => rw [enterFallback_frame]; exact h

theorem watchdogKept_congr {s t : State} (h : WatchdogKept s) (watchdog : t.watchdog = s.watchdog)
    (stage : t.stage = s.stage) (on : t.fallbackOn = s.fallbackOn) (config : t.config = s.config) : WatchdogKept t := by
  unfold WatchdogKept State.running
  rw [watchdog, stage, on, config]
  exact h

theorem watchdogKept_stopped {s : State} (watchdog : s.watchdog = none) (stage : s.stage ≠ .running) :
    WatchdogKept s := by
  simp [WatchdogKept, watchdog, State.running, stage]

theorem watchdog_none_of_stopped {s : State} (h : WatchdogKept s) (stage : s.stage ≠ .running) : s.watchdog = none := by
  have stopped : s.running = false := by simp [State.running, stage]
  rw [WatchdogKept, stopped] at h
  simpa using h

/-- A refresh starts the watchdog exactly where it runs, and leaves a stopped one stopped (07 R147). -/
theorem watchdogKept_startWatchdog {s : State} (h : s.watchdog.isSome = true → s.watchdogRuns = true) :
    WatchdogKept s.startWatchdog := by
  unfold State.startWatchdog
  split
  · next runs => exact runs.symm
  · next stopped =>
    show s.watchdog.isSome = s.watchdogRuns
    rw [Bool.eq_false_iff.mpr stopped]
    exact Bool.eq_false_iff.mpr fun running => stopped (h running)

theorem watchdogKept_resetWatchdog (s : State) : WatchdogKept s.resetWatchdog := by
  show (if s.watchdogRuns = true then some s.config.watchdogMicros else none).isSome = s.watchdogRuns
  cases s.watchdogRuns <;> rfl

theorem watchdogKept_applyConfig {s : State} (es : List ConfigEntry) (o : Origin) (h : WatchdogKept s) :
    WatchdogKept (s.applyConfig es o) := by
  rw [applyConfig_frame]
  show (s.configuredItems es o).watchdog.isSome = State.watchdogRuns { s with config := s.config.applyAll es }
  rw [configuredItems_watchdog]
  split
  · exact watchdogKept_resetWatchdog { s with config := s.config.applyAll es }
  · next untouched =>
    have period : (s.config.applyAll es).watchdogPeriod = s.config.watchdogPeriod :=
      watchdogPeriod_applyAll _ fun named => untouched (.inl ((touches_iff es 0x10).mpr named))
    show s.watchdog.isSome = (s.running && !s.fallbackOn && (s.config.applyAll es).watchdogPeriod != 0)
    rw [period]
    exact h

theorem watchdogKept_act {s t : State} (act : Act s t) (held : HeldKept s) (h : WatchdogKept s) : WatchdogKept t := by
  cases act with
  | ports | raised | cleared | wrote | froze | offered | patternWritten | windowOut | saving | snapshot | pinLow
  | rawMoved | debounced => exact h
  | refreshed => exact watchdogKept_startWatchdog fun running => by rw [← running]; exact h.symm
  | reset =>
    exact watchdogKept_stopped rfl (by show (if _ then Stage.held else Stage.loading) ≠ _; split <;> exact nofun)
  | pinHigh low =>
    refine watchdogKept_stopped (watchdog_none_of_stopped (s := s) h (by rw [held (.inl low)]; exact nofun)) ?_
    show (if _ then Stage.loading else Stage.held) ≠ _
    split <;> exact nofun
  | loaded loading =>
    rw [endLoad_frame]
    exact watchdogKept_stopped (watchdog_none_of_stopped (s := s) h (by rw [loading]; exact nofun)) nofun
  | entered settles run =>
    have stopped : s.watchdog = none :=
      watchdog_none_of_stopped (s := s) h (by intro running; rw [running] at settles; exact nomatch settles)
    have started : WatchdogKept (State.acceptLines { s with stage := .running }).startWatchdog :=
      watchdogKept_startWatchdog fun running => absurd (show s.watchdog.isSome = true from running) (by simp [stopped])
    exact watchdogKept_congr (t := State.drive _) started run.frame.watchdog run.frame.stage run.frame.fallbackOn
      run.frame.config
  | played _ run =>
    exact watchdogKept_congr (s := s) h run.frame.watchdog run.frame.stage run.frame.fallbackOn run.frame.config
  | channel one => rw [one.frame]; exact h
  | configured => exact watchdogKept_applyConfig _ _ h
  | saved => rw [saveCompletion_frame]; exact h
  | failed => rw [saveFailure_frame]; exact h
  | exited _ on =>
    have frame := (playActs_exitFallback s).frame
    have stopped : s.watchdog = none := by simpa [WatchdogKept, on] using h
    refine watchdogKept_startWatchdog (s := State.releasePlay { s with fallbackOn := false } 24) fun running => ?_
    rw [frame.watchdog, show State.watchdog { s with fallbackOn := false } = none from stopped] at running
    exact nomatch running
  | fellBack => rw [enterFallback_frame]; simp [WatchdogKept]

theorem running_tick (s : State) : s.tick.running = s.running := by
  unfold State.running
  rw [tick_stage]
  cases s.stage <;> rfl

theorem tick_lines {s : State} (stage : s.stage ≠ .held) :
    s.tick.lines = mapBank (fun x => { x with timer := countDown x.timer }) s.lines := by
  unfold State.tick
  rw [if_neg stage, tickPlays_frame]

theorem tick_watchdog {s : State} (stage : s.stage ≠ .held) : s.tick.watchdog = countDown s.watchdog := by
  unfold State.tick
  rw [if_neg stage, tickPlays_frame]

theorem linesKept_tick {s : State} (stage : s.stage ≠ .held) (h : LinesKept s) : LinesKept s.tick := by
  rw [linesKept_iff] at *
  intro l y hy
  have watches : s.tick.watches l = s.watches l := by
    unfold State.watches
    rw [running_tick, tick_frame]
    rfl
  rw [State.line, tick_lines stage, at1_mapBank] at hy
  obtain ⟨x, hx, rfl⟩ := Option.map_eq_some_iff.mp hy
  have kept := h l x hx
  rw [watches]
  unfold Line.Kept at *
  split at kept
  · next watched => rw [if_pos watched]; exact ⟨kept.1, by rw [countDown_isSome]; exact kept.2⟩
  · next unwatched => rw [if_neg unwatched]; exact ⟨kept.1, by rw [kept.2]; rfl⟩

theorem watchdogKept_tick {s : State} (stage : s.stage ≠ .held) (h : WatchdogKept s) : WatchdogKept s.tick := by
  have frame := tick_frame s
  unfold WatchdogKept
  rw [tick_watchdog stage, countDown_isSome, running_tick, frame]
  exact h

/-- Settles O59: a line is set only by its own level, its own items or a change of stage, and the watchdog only where it runs
or stops. A part held in reset counts no time and is not RUNNING when it leaves. -/
theorem everyStepKeepsTheInputLinesAndTheWatchdog : Obligations.EveryStepKeepsTheInputLinesAndTheWatchdog := by
  intro s t held lines watchdog h
  have kept := step_keeps (P := fun s => HeldKept s ∧ LinesKept s ∧ WatchdogKept s) (fun _ _ hs => hs) (fun _ _ hs => hs)
    (fun _ stage hs => ⟨heldKept_tick stage hs.1, linesKept_tick stage hs.2.1, watchdogKept_tick stage hs.2.2⟩)
    (fun _ _ act hs => ⟨heldKept_act act hs.1, linesKept_act act hs.1 hs.2.1, watchdogKept_act act hs.1 hs.2.2⟩)
    h ⟨held, lines, watchdog⟩
  exact kept.2

end Sys2Proof.Machine
end

section
/-! The accumulator, the event sets and the resume sets, kept by every step (05 R119, R120, 09 section 9.5, 10 R176, R181). -/

namespace Sys2Proof.Machine

/-! ## Event sets -/

theorem msb_set (e : EventFlag) : e.set.msb = false := by cases e <;> rfl

/-- Raising an event leaves bit 15 as it was: no flag has it. -/
theorem flags_raise_msb {s : State} (h : s.flags.msb = false) (e : EventFlag) : (s.raise e).flags.msb = false := by
  show (s.flags ||| e.set).msb = false
  rw [BitVec.msb_or, h, msb_set]
  rfl

theorem flags_evictAll_msb {s : State} (h : s.flags.msb = false) (n : Nat) (marks : List Nat) :
    (s.evictAll n marks).flags.msb = false := by
  induction marks generalizing s with
  | nil => exact h
  | cons id marks ih =>
    refine ih (s := s.evict n id) ?_
    cases hp : s.play id with
    | none => rw [evict_of_none hp]; exact h
    | some p =>
      rw [evict_of_play hp]
      exact flags_raise_msb (s := s.endPlay id) ((sameEvents_endPlay s id).1 ▸ h) .eviction

theorem flags_of_vacated {s m : State} {n : Nat} (h : Vacated s n m) : m.flags = s.flags := by
  cases h with
  | absent => rfl
  | ended => exact (sameEvents_endPlay s _).1

theorem flags_playAct_msb {s t : State} (act : PlayAct s t) (h : s.flags.msb = false) : t.flags.msb = false := by
  cases act with
  | event e => exact flags_raise_msb h e
  | adjusted | edited => exact h
  | ended => rw [(sameEvents_endPlay s _).1]; exact h
  | restarted hp =>
    rw [restart_eq_fillRecord hp, (sameEvents_fillRecord s _ _ _ _).1]
    exact h
  | admitted =>
    rw [(sameEvents_fillRecord _ _ _ _ _).1]
    exact flags_evictAll_msb h _ _
  | handedOver vacated =>
    rw [(sameEvents_fillRecord _ _ _ _ _).1]
    exact flags_evictAll_msb ((flags_of_vacated vacated).symm ▸ h) _ _
  | converted => unfold State.convert; rw [(sameEvents_arrive _ _).1]; exact h
  | rewritten vacated => exact (flags_of_vacated vacated).symm ▸ h

theorem flags_playActs_msb {s t : State} (run : PlayActs s t) (h : s.flags.msb = false) : t.flags.msb = false :=
  run.keeps (P := fun s => s.flags.msb = false) (fun _ _ => flags_playAct_msb) h

theorem flags_onChannel_msb {s : State} (h : s.flags.msb = false) (c : Nat) {act : Channel → State}
    (hact : ∀ x, (act x).flags.msb = false) : (s.onChannel c act).flags.msb = false := by
  unfold State.onChannel
  split
  · exact h
  · exact hact _

theorem flags_takeSample_msb {s : State} (h : s.flags.msb = false) (degrees : Int) :
    (s.takeSample degrees).flags.msb = false := by
  unfold State.takeSample
  dsimp only
  split
  · exact h
  · unfold State.takeReading State.raiseOption
    dsimp only
    split
    · exact h
    · exact flags_raise_msb (s := { s with thermal := _ }) h _

theorem flags_channelAct_msb {s t : State} (act : ChannelAct s t) (h : s.flags.msb = false) : t.flags.msb = false := by
  cases act with
  | condition | clear => first | exact h | exact flags_onChannel_msb h _ fun _ => h
  | trip =>
    refine flags_onChannel_msb h _ fun x => ?_
    split
    · exact flags_raise_msb (s := s.setChannel _ _) h _
    · exact h
  | openLoad =>
    refine flags_onChannel_msb h _ fun x => ?_
    split
    · exact flags_raise_msb (s := s.setChannel _ _) h _
    · exact h
  | retry | goodRun => exact flags_onChannel_msb h _ fun x => by split <;> exact h
  | sample degrees =>
    unfold State.sample
    split
    · exact flags_takeSample_msb h degrees
    · exact h

/-- Bit 15 is clear in the mask of an image. -/
def Image.MaskOk (m : Image) : Prop := m.config.attentionMask.msb = false

theorem maskOk_factory : Image.factory.MaskOk := by
  show Items.factory.attentionMask.msb = false
  decide

theorem eventSetsKept_congr {s t : State} (h : EventSetsKept s) (flags : t.flags.msb = false)
    (mask : t.config.attentionMask = s.config.attentionMask) (image : t.image = s.image) (store : t.store = s.store) :
    EventSetsKept t := by
  obtain ⟨-, hm, hi⟩ := h
  refine ⟨flags, mask ▸ hm, ?_⟩
  rw [heldImages_congr image store]
  exact hi

theorem flags_saveCompletion_msb {s : State} (h : s.flags.msb = false) : s.saveCompletion.flags.msb = false := by
  unfold State.saveCompletion
  split
  · exact h
  · refine flags_raise_msb ?_ _
    rw [storeIdle_frame]
    exact h

theorem flags_saveFailure_msb {s : State} (h : s.flags.msb = false) : s.saveFailure.flags.msb = false := by
  unfold State.saveFailure
  split
  · exact h
  · refine flags_raise_msb ?_ _
    rw [storeIdle_frame]
    exact h

theorem eventSetsKept_act {s t : State} (act : Act s t) (h : EventSetsKept s) : EventSetsKept t := by
  obtain ⟨flags, mask, images⟩ := h
  have kept : EventSetsKept s := ⟨flags, mask, images⟩
  cases act with
  | ports | wrote | froze | rawMoved | debounced | snapshot | pinLow | pinHigh | offered | patternWritten | windowOut =>
    exact kept
  | refreshed => rw [startWatchdog_frame]; exact kept
  | reset => exact ⟨(rfl : (0 : EventSet).msb = false), maskOk_factory, forall_heldImages_of_idle (P := Image.MaskOk) images rfl rfl⟩
  | raised e => exact ⟨flags_raise_msb flags e, mask, images⟩
  | cleared named =>
    refine ⟨?_, mask, images⟩
    show (s.flags &&& ~~~named).msb = false
    rw [BitVec.msb_and, flags]
    rfl
  | loaded =>
    refine ⟨?_, ?_, ?_⟩
    · rw [endLoad_flags]
      split
      · exact flags
      · exact flags_raise_msb flags .storeInvalid
    · rw [endLoad_frame]
      exact imageToLoad_of_held (P := Image.MaskOk) maskOk_factory images
    · rw [endLoad_frame]
      exact images
  | entered _ run =>
    have started : EventSetsKept (State.acceptLines { s with stage := .running }).startWatchdog := by
      rw [startWatchdog_frame]; exact kept
    have flags' := flags_playActs_msb run started.1
    exact eventSetsKept_congr (t := State.drive _) started flags'
      (congrArg Items.attentionMask run.frame.config) run.frame.image run.frame.store
  | played _ run =>
    have flags' := flags_playActs_msb run flags
    exact eventSetsKept_congr (t := State.drive _) kept flags'
      (congrArg Items.attentionMask run.frame.config) run.frame.image run.frame.store
  | channel one =>
    have flags' := flags_channelAct_msb one flags
    rw [one.frame]
    exact ⟨flags', mask, images⟩
  | configured o _ read =>
    rw [applyConfig_frame]
    exact ⟨flags, attentionMask_applyAll (readSetConfig_inRange read) mask, images⟩
  | saving owner => exact ⟨flags, mask, forall_heldImages_startSave (P := Image.MaskOk) owner images mask⟩
  | saved =>
    exact ⟨flags_saveCompletion_msb flags, by rw [saveCompletion_frame]; exact mask,
      forall_heldImages_saveCompletion (P := Image.MaskOk) images⟩
  | failed =>
    exact ⟨flags_saveFailure_msb flags, by rw [saveFailure_frame]; exact mask,
      forall_heldImages_saveFailure (P := Image.MaskOk) images⟩
  | exited =>
    have released := flags_playActs_msb (playActs_exitFallback s) flags
    refine eventSetsKept_congr (s := s) kept ?_ ?_ ?_ ?_
    · show s.exitFallback.flags.msb = false
      rw [exitFallback_eq, startWatchdog_frame]
      exact released
    all_goals rw [exitFallback_frame]; rfl
  | fellBack =>
    have entered : s.fallbackEntered.flags.msb = false := flags_raise_msb flags .fallbackEntered
    have settled := flags_playActs_msb (playActs_enterFallback s) entered
    refine eventSetsKept_congr (s := s) kept settled ?_ ?_ ?_
    all_goals rw [enterFallback_frame]; rfl

/-! ## The accumulator -/

theorem samples_pos (a : Averaging) : 0 < a.samples := by cases a <;> decide

theorem thermalKept_congr {s t : State} (h : ThermalKept s) (thermal : t.thermal = s.thermal) (config : t.config = s.config) :
    ThermalKept t := by
  unfold ThermalKept
  rw [thermal, config]
  exact h

/-- A sample that is not the last one leaves room for it, and a reading empties the accumulator (05 R120). -/
theorem thermalKept_takeSample (s : State) (degrees : Int) : ThermalKept (s.takeSample degrees) := by
  unfold State.takeSample
  dsimp only
  split
  · next room => exact room
  · unfold State.takeReading State.raiseOption
    dsimp only
    split <;> exact samples_pos _

theorem thermalKept_onChannel {s : State} (h : ThermalKept s) (c : Nat) {act : Channel → State}
    (hact : ∀ x, ThermalKept (act x)) : ThermalKept (s.onChannel c act) := by
  unfold State.onChannel
  split
  · exact h
  · exact hact _

theorem thermalKept_channelAct {s t : State} (act : ChannelAct s t) (h : ThermalKept s) : ThermalKept t := by
  cases act with
  | condition => exact thermalKept_onChannel h _ fun _ => h
  | clear => exact h
  | trip | openLoad | retry | goodRun => exact thermalKept_onChannel h _ fun x => by split <;> exact h
  | sample degrees =>
    unfold State.sample
    split
    · exact thermalKept_takeSample s degrees
    · exact h

theorem thermalKept_act {s t : State} (act : Act s t) (h : ThermalKept s) : ThermalKept t := by
  cases act with
  | ports | wrote | froze | rawMoved | debounced | snapshot | pinLow | pinHigh | offered | patternWritten | windowOut
  | raised | cleared | saving => exact h
  | refreshed => rw [startWatchdog_frame]; exact h
  | reset => exact samples_pos _
  | loaded =>
    rw [endLoad_frame]
    show (if s.imageToLoad.config.averaging = s.config.averaging then s.thermal else s.thermal.emptied).count < _
    split
    · next same => exact same.symm ▸ h
    · exact samples_pos _
  | entered _ run =>
    refine thermalKept_congr (s := s) h (run.frame.thermal.trans ?_) (run.frame.config.trans ?_)
    all_goals rw [startWatchdog_frame]; rfl
  | played _ run => exact thermalKept_congr (s := s) h run.frame.thermal run.frame.config
  | channel one => exact thermalKept_channelAct one h
  | configured =>
    rw [applyConfig_frame, configuredItems_thermal]
    split
    · exact samples_pos _
    · next untouched =>
      show s.thermal.count < (s.config.applyAll _).averaging.samples
      rw [averaging_applyAll _ ((touches_eq_false_iff _ _).mp (Bool.eq_false_iff.mpr untouched))]
      exact h
  | saved => rw [saveCompletion_frame]; exact h
  | failed => rw [saveFailure_frame]; exact h
  | exited => rw [exitFallback_frame]; exact h
  | fellBack => rw [enterFallback_frame]; exact h

/-! ## Resume sets -/

/-- A resume set of an image is within its bounds. -/
def Image.ResumeOk (m : Image) : Prop := Sys2Proof.Machine.ResumeOk m.resume

theorem resumeOk_factory : Image.factory.ResumeOk := ⟨by decide, by decide, by simp [Image.factory]⟩

theorem resumeOk_sustainedCues (s : State) : ResumeOk s.sustainedCues := by
  refine ⟨List.length_take_le _ _, ((List.nodup_range' (s := 1) (n := 64)).filter _).sublist (List.take_sublist _ _), fun n hn => ?_⟩
  have range := List.mem_range'_1.mp (List.mem_of_mem_filter (List.mem_of_mem_take hn))
  omega

theorem resumeKept_congr {s t : State} (h : ResumeKept s) (resume : t.resumeSet = s.resumeSet) (image : t.image = s.image)
    (store : t.store = s.store) : ResumeKept t := by
  unfold ResumeKept
  rw [resume, heldImages_congr image store]
  exact h

theorem resumeKept_act {s t : State} (act : Act s t) (h : ResumeKept s) : ResumeKept t := by
  obtain ⟨live, images⟩ := h
  have kept : ResumeKept s := ⟨live, images⟩
  cases act with
  | ports | wrote | froze | rawMoved | debounced | pinLow | pinHigh | offered | patternWritten | windowOut | raised
  | cleared => exact kept
  | refreshed => rw [startWatchdog_frame]; exact kept
  | reset => exact ⟨live, forall_heldImages_of_idle (P := Image.ResumeOk) images rfl rfl⟩
  | loaded =>
    rw [endLoad_frame]
    exact ⟨imageToLoad_of_held (P := Image.ResumeOk) resumeOk_factory images, images⟩
  | entered _ run =>
    refine resumeKept_congr (s := s) kept (run.frame.resumeSet.trans ?_) (run.frame.image.trans ?_) (run.frame.store.trans ?_)
    all_goals rw [startWatchdog_frame]; rfl
  | played _ run => exact resumeKept_congr (s := s) kept run.frame.resumeSet run.frame.image run.frame.store
  | channel one => rw [one.frame]; exact kept
  | configured => rw [applyConfig_frame]; exact kept
  | saving owner => exact ⟨live, forall_heldImages_startSave (P := Image.ResumeOk) owner images live⟩
  | saved =>
    exact ⟨by rw [saveCompletion_frame]; exact live, forall_heldImages_saveCompletion (P := Image.ResumeOk) images⟩
  | failed => exact ⟨by rw [saveFailure_frame]; exact live, forall_heldImages_saveFailure (P := Image.ResumeOk) images⟩
  | snapshot => exact ⟨resumeOk_sustainedCues s, images⟩
  | exited => rw [exitFallback_frame]; exact kept
  | fellBack => rw [enterFallback_frame]; exact kept

/-- Settles O60: samples and readings, raised and cleared flags, configured masks and snapshots keep their bounds, and an image
takes and gives them as they are. -/
theorem everyStepKeepsTheSmallTables : Obligations.EveryStepKeepsTheSmallTables := by
  intro s t thermal events resume h
  refine step_keeps (P := fun s => ThermalKept s ∧ EventSetsKept s ∧ ResumeKept s) (fun _ _ hs => hs) (fun _ _ hs => hs)
    (fun s _ hs => ?_)
    (fun _ _ act hs => ⟨thermalKept_act act hs.1, eventSetsKept_act act hs.2.1, resumeKept_act act hs.2.2⟩)
    h ⟨thermal, events, resume⟩
  rw [tick_frame]
  exact hs

end Sys2Proof.Machine
end

section
/-! The output levels and the channel records, kept by every step (03 R71, 05 R101 to R118). -/

namespace Sys2Proof.Machine

/-! ## Levels follow their owners -/

/-- What an output level reads of the state stands, and so do the channel records. -/
theorem levels_congr {s t : State} (h : LevelsFollowTheOwners s) (channels : t.channels = s.channels)
    (output : ∀ c st, t.outputLevel c st = s.outputLevel c st) : LevelsFollowTheOwners t := by
  intro c hc x hx
  rw [output]
  exact h c hc x (by rw [State.channel, channels] at hx; exact hx)

/-- Outside RUNNING every output is at 0 (03 R71). -/
theorem outputLevel_stopped {s : State} (h : s.stage ≠ .running) (c : Nat) (st : SupervisorState) :
    s.outputLevel c st = 0 := by
  simp [State.outputLevel, State.gated, State.running, h]

theorem outputLevel_of_not_normal {s : State} {st : SupervisorState} (h : st ≠ .normal) (c : Nat) :
    s.outputLevel c st = 0 := by
  simp [State.outputLevel, State.gated, h]

theorem levels_stopped {s t : State} (h : LevelsFollowTheOwners s) (channels : t.channels = s.channels)
    (before : s.stage ≠ .running) (now : t.stage ≠ .running) : LevelsFollowTheOwners t :=
  levels_congr h channels fun c st => by rw [outputLevel_stopped before, outputLevel_stopped now]

/-- A cue that nothing plays gives no level. -/
theorem outputLevel_setSlot {s : State} {n : Nat} (absent : s.playOf n = none) (x : Slot) (c : Nat) (st : SupervisorState) :
    (s.setSlot n x).outputLevel c st = s.outputLevel c st := by
  have level (id : Nat) : (s.setSlot n x).levelOf id c = s.levelOf id c := by
    show (match s.play id with
      | none => 0
      | some p => playLevel ((s.setSlot n x).recordOf p) p c) = s.levelOf id c
    unfold State.levelOf
    cases hp : s.play id with
    | none => rfl
    | some p =>
      have other : p.cue ≠ n := playOf_none_iff.mp absent id p hp
      simp only [State.recordOf, slot_setSlot_other s n p.cue x other]
  show (if s.gated st then 0 else match s.owner c with
    | none => 0
    | some id => deratedLevel ((s.setSlot n x).levelOf id c) _) = s.outputLevel c st
  simp only [level]
  rfl

/-- A change of a channel record that leaves its level and its state. -/
theorem levels_mapBank {s : State} (h : LevelsFollowTheOwners s) {f : Channel → Channel}
    (same : ∀ x, (f x).level = x.level ∧ (f x).state = x.state) :
    LevelsFollowTheOwners { s with channels := mapBank f s.channels } := by
  intro c hc y hy
  have read : at1 (mapBank f s.channels) c = some y := hy
  rw [at1_mapBank] at read
  obtain ⟨x, hx, rfl⟩ := Option.map_eq_some_iff.mp read
  rw [(same x).1, (same x).2]
  exact h c hc x hx

theorem levels_setChannel {s : State} (h : LevelsFollowTheOwners s) {c : Nat} {x y : Channel} (hx : s.channel c = some x)
    (level : y.level = x.level) (state : y.state = x.state) : LevelsFollowTheOwners (s.setChannel c y) := by
  intro d hd z hz
  have read : (if d = c ∧ 1 ≤ c ∧ c ≤ 16 then some y else s.channel d) = some z := by rw [← hz]; exact (at1_put1 _ _ _ _).symm
  split at read
  · next here =>
    obtain rfl := Option.some.inj read
    rw [level, state, here.1]
    exact h c (here.1 ▸ hd) x hx
  · exact h d hd z read

theorem levels_onChannel {s : State} (h : LevelsFollowTheOwners s) (c : Nat) {act : Channel → State}
    (hact : ∀ x, s.channel c = some x → LevelsFollowTheOwners (act x)) : LevelsFollowTheOwners (s.onChannel c act) := by
  unfold State.onChannel
  split
  · exact h
  · next x hx => exact hact x hx

theorem levels_channelAct {s t : State} (act : ChannelAct s t) (h : LevelsFollowTheOwners s) : LevelsFollowTheOwners t := by
  cases act with
  | condition => exact levels_onChannel h _ fun _ _ => levels_follow_after_drive _
  | clear => exact levels_follow_after_drive _
  | trip | openLoad | retry =>
    refine levels_onChannel h _ fun x _ => ?_
    split
    · exact levels_follow_after_drive _
    · exact h
  | goodRun =>
    refine levels_onChannel h _ fun x hx => ?_
    split
    · exact levels_setChannel h hx rfl rfl
    · exact h
  | sample =>
    unfold State.sample
    split
    · exact levels_follow_after_drive _
    · exact h

theorem levels_useGoodRun {s : State} (h : LevelsFollowTheOwners s) (es : List ConfigEntry) :
    LevelsFollowTheOwners (s.useGoodRun es) := by
  unfold State.useGoodRun
  split
  · exact levels_mapBank h fun _ => ⟨rfl, rfl⟩
  · exact h

theorem stage_partReset_ne_running (s : State) (cause : ResetCause) : (s.partReset cause).stage ≠ .running := by
  show (if _ then Stage.held else Stage.loading) ≠ _
  split <;> exact nofun

theorem levels_partReset (s : State) (cause : ResetCause) : LevelsFollowTheOwners (s.partReset cause) := by
  intro c _ y hy
  have read : at1 (mapBank Channel.reset s.channels) c = some y := hy
  rw [at1_mapBank] at read
  obtain ⟨x, -, rfl⟩ := Option.map_eq_some_iff.mp read
  rw [outputLevel_stopped (stage_partReset_ne_running s cause)]
  rfl

theorem levels_act {s t : State} (act : Act s t) (held : HeldKept s) (h : LevelsFollowTheOwners s) :
    LevelsFollowTheOwners t := by
  cases act with
  | ports | raised | cleared | froze | offered | patternWritten | windowOut | rawMoved | debounced | saving | snapshot
  | pinLow => exact h
  | refreshed => rw [startWatchdog_frame]; exact h
  | reset => exact levels_partReset _ _
  | pinHigh low =>
    refine levels_stopped (s := s) h rfl (by rw [held (.inl low)]; exact nofun) ?_
    show (if _ then Stage.loading else Stage.held) ≠ _
    split <;> exact nofun
  | loaded loading =>
    rw [endLoad_frame]
    exact levels_stopped (s := s) h rfl (by rw [loading]; exact nofun) nofun
  | entered | played | exited | fellBack => exact levels_follow_after_drive _
  | wrote absent => exact levels_congr (s := s) h rfl fun c st => outputLevel_setSlot absent _ c st
  | channel one => exact levels_channelAct one h
  | configured => rw [applyConfig_eq]; exact levels_useGoodRun (levels_follow_after_drive _) _
  | saved => rw [saveCompletion_frame]; exact h
  | failed => rw [saveFailure_frame]; exact h

/-! ## Time moves no level -/

theorem tick_channels {s : State} (stage : s.stage ≠ .held) : s.tick.channels = mapBank Channel.tick s.channels := by
  unfold State.tick
  rw [if_neg stage, tickPlays_frame]

/-- Which plays exist, and all that a level reads of them, stand while time passes. -/
theorem play_tick (s : State) (id : Nat) :
    ∃ timer : Play → Nat, s.tick.play id = (s.play id).map fun p => { p with timer := timer p } := by
  have stands : ∀ o : Option Play, o = o.map fun p => { p with timer := p.timer } := by intro o; cases o <;> rfl
  unfold State.tick
  split
  · exact ⟨Play.timer, stands _⟩
  · unfold State.tickPlays
    split
    · exact ⟨Play.timer, stands _⟩
    · have read : ∀ o : Option (Option Play),
          (o.map fun q => q.map (·.tick s.frozen)).join = o.join.map (·.tick s.frozen) := by rintro (_ | _ | _) <;> rfl
      refine ⟨fun p => if s.frozen then p.timer else p.timer - 1, ?_⟩
      rw [State.play, at1_mapBank, read]
      congr 1
      funext p
      cases s.frozen <;> rfl

theorem outputLevel_tick (s : State) (c : Nat) (st : SupervisorState) : s.tick.outputLevel c st = s.outputLevel c st := by
  have frame := tick_frame s
  have level (id : Nat) : s.tick.levelOf id c = s.levelOf id c := by
    obtain ⟨timer, hplay⟩ := play_tick s id
    unfold State.levelOf
    rw [hplay]
    cases s.play id with
    | none => rfl
    | some p =>
      have record : s.tick.recordOf { p with timer := timer p } = s.recordOf p := by rw [frame]; rfl
      simp only [Option.map_some, record]
      rfl
  have owner : s.tick.owner c = s.owner c := by rw [frame]; rfl
  have gated : s.tick.gated st = s.gated st := by
    unfold State.gated
    rw [running_tick, frame]
  have derate : derateInForce s.tick.thermal.state s.tick.config.derate = derateInForce s.thermal.state s.config.derate := by
    rw [frame]
  unfold State.outputLevel
  rw [gated, owner, derate]
  simp only [level]

theorem levels_tick {s : State} (stage : s.stage ≠ .held) (h : LevelsFollowTheOwners s) : LevelsFollowTheOwners s.tick := by
  have ticked := levels_mapBank h (f := Channel.tick) fun _ => ⟨rfl, rfl⟩
  exact levels_congr ticked (tick_channels stage) (outputLevel_tick s)

/-- Settles O53: a step that can move a level computes every channel again, one that cannot leaves what a level reads, and
outside RUNNING every level is 0. -/
theorem everyStepKeepsTheLevelsAtTheirOwners : Obligations.EveryStepKeepsTheLevelsAtTheirOwners := by
  refine ⟨fun s t held h => heldKept_step held h, fun s t held levels h => ?_⟩
  exact (step_keeps (P := fun s => HeldKept s ∧ LevelsFollowTheOwners s) (fun _ _ hs => hs) (fun _ _ hs => hs)
    (fun _ stage hs => ⟨heldKept_tick stage hs.1, levels_tick stage hs.2⟩)
    (fun _ _ act hs => ⟨heldKept_act act hs.1, levels_act act hs.1 hs.2⟩) h ⟨held, levels⟩).2

/-! ## Channel records -/

/-- What a recomputation of the outputs does not set: the retry timer and the count (05 section 5.3). -/
def Channel.CountKept (x : Channel) : Prop :=
  (x.retryTimer.isSome = true ↔ x.state = .tripped) ∧ x.retryCount ≤ 8 ∧ (x.state ≠ .locked → x.retryCount ≤ 7)

theorem Channel.Kept.count {x : Channel} (h : x.Kept) : x.CountKept := by
  obtain ⟨timer, -, -, -, -, -, eight, seven⟩ := h
  exact ⟨timer, eight, seven⟩

theorem measure_isSome (x : Sense) (sensed : Bool) :
    (x.measure sensed).persistence.isSome = true ↔ x.reported = true ∧ sensed = true := by
  cases hr : x.reported <;> cases sensed <;> simp [Sense.measure, hr]

/-- A recomputation sets the rest of the record as its supervisor state and its new level say (05 R103, R108, R113). -/
theorem Channel.CountKept.drive {x : Channel} (h : x.CountKept) {level : Nat} (dark : x.state ≠ .normal → level = 0)
    (time : Byte) : (x.drive level time).Kept := by
  obtain ⟨timer, eight, seven⟩ := h
  refine ⟨timer, fun running => ?_, dark, ?_, ?_, ?_, eight, seven⟩
  · have lit : level ≠ 0 := by
      rintro rfl
      exact absurd running (by simp [Channel.drive])
    exact ⟨by_contra fun off => lit (dark off), lit⟩
  · exact (measure_isSome _ _).trans (by rw [decide_eq_true_iff]; exact Iff.rfl)
  · exact (measure_isSome _ _).trans (by rw [decide_eq_true_iff]; exact Iff.rfl)
  · exact (measure_isSome _ _).trans (by rw [Bool.and_eq_true, decide_eq_true_iff, Bool.not_eq_true']; exact Iff.rfl)

theorem kept_drive {s : State} (h : ∀ x ∈ s.channels.toList, x.CountKept) : ∀ x ∈ s.drive.channels.toList, x.Kept :=
  forall_mem_mapBank1 fun c x hx =>
    (h x (mem_of_at1 hx)).drive (fun off => outputLevel_of_not_normal off c) s.config.goodRunTime

theorem kept_drive_of_channels {s t : State} (h : ∀ x ∈ s.channels.toList, x.Kept) (channels : t.channels = s.channels) :
    ∀ x ∈ t.drive.channels.toList, x.Kept :=
  kept_drive fun x hx => (h x (channels ▸ hx)).count

/-- A trip counts one more, and locks the channel above max retries 0..7 (05 R106, R111). -/
theorem countKept_tripped {x : Channel} (h : x.CountKept) (normal : x.state = .normal) {i : Items} (max : i.maxRetries ≤ 7) :
    (x.tripped i).CountKept := by
  have seven : x.retryCount ≤ 7 := h.2.2 (by rw [normal]; exact nofun)
  unfold Channel.tripped Channel.CountKept
  dsimp only
  split
  · exact ⟨by simp, by omega, by simp⟩
  · exact ⟨by simp, by omega, fun _ => by omega⟩

theorem countKept_retried {x : Channel} (h : x.CountKept) (tripped : x.state = .tripped) : x.retried.CountKept :=
  ⟨by simp [Channel.retried], h.2.1, fun _ => h.2.2 (by rw [tripped]; exact nofun)⟩

theorem countKept_cleared (x : Channel) : x.cleared.CountKept := ⟨by simp [Channel.cleared], Nat.zero_le _, fun _ => Nat.zero_le _⟩

theorem countKept_setSense {x : Channel} (h : x.CountKept) (cond : FaultCondition) (y : Sense) :
    (x.setSense cond y).CountKept := by cases cond <;> exact h

theorem kept_onChannel {s : State} (h : ∀ x ∈ s.channels.toList, x.Kept) (c : Nat) {act : Channel → State}
    (hact : ∀ x, x.Kept → ∀ y ∈ (act x).channels.toList, y.Kept) :
    ∀ y ∈ (s.onChannel c act).channels.toList, y.Kept := by
  unfold State.onChannel
  split
  · exact h
  · next x hx => exact hact x (h x (mem_of_at1 hx))

theorem kept_drive_setChannel {s : State} (h : ∀ x ∈ s.channels.toList, x.Kept) {c : Nat} {y : Channel}
    (hy : y.CountKept) : ∀ x ∈ (s.setChannel c y).drive.channels.toList, x.Kept :=
  kept_drive (forall_mem_put1 (fun x hx => (h x hx).count) hy)

theorem state_of_detects {x : Channel} {i : Items} {cond : FaultCondition} (h : x.detects i cond = true) :
    x.state = .normal := by
  simp only [Channel.detects, Bool.and_eq_true, beq_iff_eq] at h
  exact h.1

theorem channels_takeSample (s : State) (degrees : Int) : (s.takeSample degrees).channels = s.channels := by
  unfold State.takeSample
  dsimp only
  split
  · rfl
  · unfold State.takeReading State.raiseOption
    dsimp only
    split <;> rfl

theorem kept_channelAct {s t : State} (act : ChannelAct s t) (max : s.config.maxRetries ≤ 7)
    (h : ∀ x ∈ s.channels.toList, x.Kept) : ∀ x ∈ t.channels.toList, x.Kept := by
  cases act with
  | condition => exact kept_onChannel h _ fun x hx => kept_drive_setChannel h (countKept_setSense hx.count _ _)
  | trip =>
    refine kept_onChannel h _ fun x hx => ?_
    split
    · next detected => exact kept_drive_setChannel h (countKept_tripped hx.count (state_of_detects detected.2) max)
    · exact h
  | openLoad =>
    refine kept_onChannel h _ fun x hx => ?_
    split
    · exact kept_drive_setChannel h (y := { x with openLoadFlag := true }) hx.count
    · exact h
  | retry =>
    refine kept_onChannel h _ fun x hx => ?_
    split
    · next due => exact kept_drive_setChannel h (countKept_retried hx.count ((retryDue_iff x).mp due).1)
    · exact h
  | goodRun =>
    refine kept_onChannel h _ fun x hx => ?_
    split
    · obtain ⟨timer, -, dark, current, short, unloaded, -, -⟩ := hx
      exact forall_mem_put1 h ⟨timer, nofun, dark, current, short, unloaded, Nat.zero_le _, fun _ => Nat.zero_le _⟩
    · exact h
  | clear named =>
    refine kept_drive (forall_mem_mapBank1 fun c x hx => ?_)
    split
    · exact countKept_cleared x
    · exact (h x (mem_of_at1 hx)).count
  | sample degrees =>
    unfold State.sample
    split
    · exact kept_drive_of_channels h (channels_takeSample s degrees)
    · exact h

theorem kept_useGoodRun {s : State} (h : ∀ x ∈ s.channels.toList, x.Kept) (es : List ConfigEntry) :
    ∀ x ∈ (s.useGoodRun es).channels.toList, x.Kept := by
  unfold State.useGoodRun
  split
  · refine forall_mem_mapBank fun x hx => ?_
    obtain ⟨timer, -, rest⟩ := h x hx
    refine ⟨timer, fun running => ?_, rest⟩
    by_contra off
    have stopped : (x.restartGoodRun s.config.goodRunTime).goodRun = none := if_neg off
    rw [stopped] at running
    exact nomatch running
  · exact h

theorem countKept_useDeglitch {s : State} (h : ∀ x ∈ s.channels.toList, x.CountKept) (es : List ConfigEntry) :
    ∀ x ∈ (s.useDeglitch es).channels.toList, x.CountKept := by
  unfold State.useDeglitch
  split
  · exact forall_mem_mapBank fun x hx => h x hx
  · exact h

theorem kept_reset (x : Channel) : x.reset.Kept := by
  refine ⟨?_, nofun, fun _ => rfl, ?_, ?_, ?_, ?_, fun _ => ?_⟩
  all_goals simp [Channel.reset, Channel.initial, Sense.discard]

/-- Max retries is 0..7 in an image (05 R111). -/
def Image.RetriesOk (m : Image) : Prop := m.config.maxRetries ≤ 7

theorem retriesOk_factory : Image.factory.RetriesOk := by
  show Items.factory.maxRetries ≤ 7
  decide

/-- The channel records and max retries, without the levels. -/
def RecordsKept (s : State) : Prop :=
  (∀ x ∈ s.channels.toList, x.Kept) ∧ s.config.maxRetries ≤ 7 ∧ ∀ m ∈ s.heldImages, m.RetriesOk

theorem recordsKept_congr {s t : State} (h : RecordsKept s) (channels : ∀ x ∈ t.channels.toList, x.Kept)
    (config : t.config = s.config) (image : t.image = s.image) (store : t.store = s.store) : RecordsKept t := by
  obtain ⟨-, max, images⟩ := h
  refine ⟨channels, config ▸ max, ?_⟩
  rw [heldImages_congr image store]
  exact images

theorem recordsKept_act {s t : State} (act : Act s t) (h : RecordsKept s) : RecordsKept t := by
  obtain ⟨records, max, images⟩ := h
  have kept : RecordsKept s := ⟨records, max, images⟩
  cases act with
  | ports | raised | cleared | wrote | froze | offered | patternWritten | windowOut | rawMoved | debounced | snapshot
  | pinLow | pinHigh => exact kept
  | refreshed => rw [startWatchdog_frame]; exact kept
  | reset =>
    exact ⟨forall_mem_mapBank fun x _ => kept_reset x, max, forall_heldImages_of_idle (P := Image.RetriesOk) images rfl rfl⟩
  | loaded =>
    rw [endLoad_frame]
    exact ⟨records, imageToLoad_of_held (P := Image.RetriesOk) retriesOk_factory images, images⟩
  | entered _ run =>
    have channels := run.frame.channels.trans (by rw [startWatchdog_frame]; rfl : _ = s.channels)
    refine recordsKept_congr kept (kept_drive_of_channels records channels) (run.frame.config.trans ?_)
      (run.frame.image.trans ?_) (run.frame.store.trans ?_)
    all_goals rw [startWatchdog_frame]; rfl
  | played _ run =>
    exact recordsKept_congr kept (kept_drive_of_channels records run.frame.channels) run.frame.config run.frame.image
      run.frame.store
  | channel one =>
    have channels := kept_channelAct one max records
    rw [one.frame] at channels ⊢
    exact ⟨channels, max, images⟩
  | @configured _ es o _ read =>
    have channels : ((s.configuredItems es o).useLines es).channels = s.channels := by
      rw [useLines_frame, configuredItems_frame]
    refine ⟨?_, ?_, ?_⟩
    · rw [applyConfig_eq]
      exact kept_useGoodRun (kept_drive (countKept_useDeglitch (fun x hx => (records x (channels ▸ hx)).count) _)) _
    · rw [applyConfig_frame]
      exact maxRetries_applyAll (readSetConfig_inRange read) max
    · rw [applyConfig_frame]
      exact images
  | saving owner => exact ⟨records, max, forall_heldImages_startSave (P := Image.RetriesOk) owner images max⟩
  | saved =>
    exact ⟨by rw [saveCompletion_frame]; exact records, by rw [saveCompletion_frame]; exact max,
      forall_heldImages_saveCompletion (P := Image.RetriesOk) images⟩
  | failed =>
    exact ⟨by rw [saveFailure_frame]; exact records, by rw [saveFailure_frame]; exact max,
      forall_heldImages_saveFailure (P := Image.RetriesOk) images⟩
  | exited =>
    refine recordsKept_congr kept (kept_drive_of_channels records ?_) ?_ ?_ ?_
    all_goals rw [exitFallback_frame]; try rfl
  | fellBack =>
    refine recordsKept_congr kept (kept_drive_of_channels records ?_) ?_ ?_ ?_
    all_goals rw [enterFallback_frame]; try rfl

theorem kept_tick {x : Channel} (h : x.Kept) : x.tick.Kept := by
  obtain ⟨timer, good, dark, current, short, unloaded, counts⟩ := h
  refine ⟨?_, ?_, dark, ?_, ?_, ?_, counts⟩
  · show (countDown x.retryTimer).isSome = true ↔ x.state = .tripped
    rw [countDown_isSome]
    exact timer
  · intro running
    exact good (by simpa [Channel.tick, countUp_isSome] using running)
  all_goals simpa [Channel.tick, Sense.tick, countUp_isSome]

theorem recordsKept_tick {s : State} (stage : s.stage ≠ .held) (h : RecordsKept s) : RecordsKept s.tick := by
  obtain ⟨records, max, images⟩ := h
  refine ⟨?_, ?_, ?_⟩
  · rw [tick_channels stage]
    exact forall_mem_mapBank fun x hx => kept_tick (records x hx)
  all_goals rw [tick_frame]; assumption

/-- Settles O54: a recomputation sets what the level decides, a trip, a retry, a clear and a good run set the count and the retry
timer with the state, and no SET_CONFIG and no image gives max retries above 7. -/
theorem everyStepKeepsTheChannelRecords : Obligations.EveryStepKeepsTheChannelRecords := by
  rintro s t held ⟨levels, records⟩ h
  exact (step_keeps (P := fun s => HeldKept s ∧ LevelsFollowTheOwners s ∧ RecordsKept s) (fun _ _ hs => hs)
    (fun _ _ hs => hs)
    (fun _ stage hs => ⟨heldKept_tick stage hs.1, levels_tick stage hs.2.1, recordsKept_tick stage hs.2.2⟩)
    (fun _ _ act hs => ⟨heldKept_act act hs.1, levels_act act hs.1 hs.2.1, recordsKept_act act hs.2.2⟩)
    h ⟨held, levels, records⟩).2

end Sys2Proof.Machine
end

section
/-! RETIRING slots and their plays, and the fallback play, kept by every step (01 R25, 02 R28, 07 R157, R159). -/

namespace Sys2Proof.Machine

/-! ## What the play acts leave in the records and the slots -/

/-- An operation on the plays that keeps every play, whatever it does to it, and its cue. -/
def KeepsCues (s t : State) : Prop := ∀ j p, s.play j = some p → ∃ q, t.play j = some q ∧ q.cue = p.cue

theorem keepsCues_setPlay {s : State} {id : Nat} {q : Play} (range : 1 ≤ id ∧ id ≤ 24)
    (same : ∀ p, s.play id = some p → q.cue = p.cue) : KeepsCues s (s.setPlay id (some q)) := by
  intro j p hp
  rw [play_setPlay s id j _ range]
  split
  · next here => exact ⟨q, rfl, same p (here ▸ hp)⟩
  · exact ⟨p, hp, rfl⟩

theorem keepsCues_fillRecord {s : State} {id cue : Nat} (range : 1 ≤ id ∧ id ≤ 24)
    (same : ∀ p, s.play id = some p → cue = p.cue) (source : Source) (priority : Nat) :
    KeepsCues s (s.fillRecord id cue source priority) := by
  intro j p hp
  rw [play_fillRecord s range]
  split
  · next here => exact ⟨_, rfl, same p (here ▸ hp)⟩
  · exact ⟨p, hp, rfl⟩

theorem range_of_mayHold {s : State} {id : Nat} {source : Source} {priority : Nat} (may : MayHold s id source priority) :
    1 ≤ id ∧ id ≤ 24 := by
  cases may with
  | ordinary low high => exact ⟨low, by omega⟩
  | entry => decide

/-- The conversion moves the play of `id` into record 24 (07 R153). -/
theorem play_convert {s : State} {id : Nat} {p : Play} (hp : s.play id = some p) (j : Nat) :
    (s.convert id p).play j =
      if j = 24 then some ((s.recordOf p).begin p.cue .fallback 16) else if j = id then none else s.play j := by
  have moved : (s.convert id p).play j =
      ((s.setPlay id none).setPlay 24 (some ((s.recordOf p).begin p.cue .fallback 16))).play j := play_arrive _ _ _
  rw [moved, play_setPlay _ _ _ _ (by decide), play_setPlay_of_play hp]

theorem convert_slots (s : State) (id : Nat) (p : Play) : (s.convert id p).slots = s.slots := arrive_slots _ _

/-! ## RETIRING slots (01 R25) -/

/-- Every RETIRING slot has a play of its cue. -/
def RetiringPlayed (s : State) : Prop := ∀ n, (s.slot n).status = .retiring → ∃ id p, s.play id = some p ∧ p.cue = n

theorem retiringPlayed_iff (s : State) :
    RetiringPlayed s ↔ ∀ n ∈ slotIds, (s.slot n).status = .retiring → (s.playOf n).isSome = true := by
  simp only [playOf_isSome_iff]
  refine ⟨fun h n _ => h n, fun h n retiring => h n ?_ retiring⟩
  have range := in_range_of_status (s := s) (n := n) (by rw [retiring]; exact nofun)
  exact List.mem_range'_1.mpr ⟨range.1, by omega⟩

theorem retiringPlayed_congr {s t : State} (h : RetiringPlayed s) (cues : KeepsCues s t)
    (slots : ∀ n, (t.slot n).status = .retiring → (s.slot n).status = .retiring) : RetiringPlayed t := by
  intro n retiring
  obtain ⟨id, p, hp, hc⟩ := h n (slots n retiring)
  obtain ⟨q, hq, same⟩ := cues id p hp
  exact ⟨id, q, hq, same.trans hc⟩

/-- A play that ends frees the slot of its cue, if it was RETIRING (01 R25). -/
theorem retiringPlayed_endPlay {s : State} (h : RetiringPlayed s) (id : Nat) : RetiringPlayed (s.endPlay id) := by
  cases hp : s.play id with
  | none => rw [endPlay_of_none hp]; exact h
  | some p =>
    intro n retiring
    rw [slot_endPlay hp] at retiring
    split at retiring
    · exact nomatch retiring
    · next other =>
      obtain ⟨j, q, hq, hc⟩ := h n retiring
      refine ⟨j, q, ?_, hc⟩
      rw [play_endPlay_other]
      · exact hq
      · rintro rfl
        rw [Option.some.inj (hp.symm.trans hq)] at other
        exact other ⟨hc.symm, retiring⟩

theorem retiringPlayed_evict {s : State} (h : RetiringPlayed s) (n id : Nat) : RetiringPlayed (s.evict n id) := by
  cases hp : s.play id with
  | none => rw [evict_of_none hp]; exact h
  | some p => rw [evict_of_play hp]; exact retiringPlayed_endPlay h id

theorem retiringPlayed_evictAll {s : State} (h : RetiringPlayed s) (n : Nat) (marks : List Nat) :
    RetiringPlayed (s.evictAll n marks) := by
  induction marks generalizing s with
  | nil => exact h
  | cons id marks ih => exact ih (retiringPlayed_evict h n id)

theorem retiringPlayed_vacated {s m : State} {n : Nat} (vacated : Vacated s n m) (h : RetiringPlayed s) :
    RetiringPlayed m := by
  cases vacated with
  | absent => exact h
  | ended => exact retiringPlayed_endPlay h _

/-- No eviction makes a slot RETIRING. -/
theorem status_evictAll_ne_retiring {s : State} {n : Nat} (h : (s.slot n).status ≠ .retiring) (cue : Nat)
    (marks : List Nat) : ((s.evictAll cue marks).slot n).status ≠ .retiring := by
  rw [slot_evictAll, if_neg fun both => h both.1]
  exact h

theorem retiringPlayed_playAct {s t : State} (act : PlayAct s t) (h : RetiringPlayed s) : RetiringPlayed t := by
  cases act with
  | event => exact h
  | adjusted hp cue =>
    exact retiringPlayed_congr h
      (keepsCues_setPlay (id_of_play _ _ _ hp) fun p' hp' => by rw [← Option.some.inj (hp.symm.trans hp')]; exact cue)
      fun _ => id
  | ended => exact retiringPlayed_endPlay h _
  | restarted hp =>
    rw [restart_eq_fillRecord hp]
    exact retiringPlayed_congr h
      (keepsCues_fillRecord (id_of_play _ _ _ hp) (fun p' hp' => by rw [Option.some.inj (hp.symm.trans hp')]) _ _)
      fun n retiring => by rw [slot_fillRecord] at retiring; exact retiring
  | admitted _ _ empty may =>
    exact retiringPlayed_congr (retiringPlayed_evictAll h _ _)
      (keepsCues_fillRecord (range_of_mayHold may) (fun p' hp' => nomatch empty.symm.trans hp') _ _)
      fun n retiring => by rw [slot_fillRecord] at retiring; exact retiring
  | @handedOver m id cue p marks vacated hp _ keeps =>
    intro n retiring
    rw [slot_fillRecord] at retiring
    have other : n ≠ p.cue := by
      rintro rfl
      exact status_evictAll_ne_retiring keeps cue marks retiring
    obtain ⟨j, q, hq, hc⟩ := retiringPlayed_evictAll (retiringPlayed_vacated vacated h) cue marks n retiring
    refine ⟨j, q, ?_, hc⟩
    rw [play_fillRecord _ (id_of_play _ _ _ hp), if_neg]
    · exact hq
    · rintro rfl
      rw [play_evictAll] at hq
      split at hq
      · exact nomatch hq
      · exact other (by rw [← hc, Option.some.inj (hp.symm.trans hq)])
  | @converted id cue p _ hp empty =>
    intro n retiring
    rw [State.slot, convert_slots] at retiring
    obtain ⟨j, q, hq, hc⟩ := h n retiring
    by_cases here : j = id
    · subst here
      refine ⟨24, _, (play_convert hp 24).trans (if_pos rfl), ?_⟩
      rw [← hc, ← Option.some.inj (hp.symm.trans hq)]
      rfl
    · refine ⟨j, q, (play_convert hp j).trans ?_, hc⟩
      rw [if_neg, if_neg here, hq]
      rintro rfl
      exact nomatch empty.symm.trans hq
  | @edited n x _ _ status =>
    intro k retiring
    rw [slot_setSlot] at retiring
    split at retiring
    · next here =>
      rw [here.1]
      rcases status retiring with before | played
      · exact h n before
      · exact playOf_isSome_iff.mp played
    · exact h k retiring
  | @rewritten m n x vacated status =>
    refine retiringPlayed_congr (retiringPlayed_vacated vacated h) (fun j p hp => ⟨p, hp, rfl⟩) fun k retiring => ?_
    rw [slot_setSlot] at retiring
    split at retiring
    · exact absurd retiring status
    · exact retiring

theorem retiringPlayed_playActs {s t : State} (run : PlayActs s t) (h : RetiringPlayed s) : RetiringPlayed t :=
  run.keeps (fun _ _ => retiringPlayed_playAct) h

/-- No slot of an image is RETIRING (01 R3). -/
def Image.SettledSlots (m : Image) : Prop := ∀ x ∈ m.slots.toList, x.status ≠ .retiring

theorem settledSlots_factory : Image.factory.SettledSlots := by
  intro x hx
  simp only [Image.factory, Vector.toList_replicate, List.mem_replicate] at hx
  rw [hx.2]
  exact nofun

theorem settledSlots_imageContents (s : State) : s.imageContents.SettledSlots := by
  refine forall_mem_mapBank fun x _ => ?_
  unfold Slot.stored
  split
  · next held => rw [held]; exact nofun
  all_goals exact nofun

/-- Slots that come from a bank without a RETIRING slot. -/
theorem status_ne_retiring_of_bank {v : Vector Slot 64} (h : ∀ x ∈ v.toList, x.status ≠ .retiring) (n : Nat) :
    ((at1 v n).getD Slot.factory).status ≠ .retiring := by
  cases hx : at1 v n with
  | none => exact nofun
  | some x => exact h x (mem_of_at1 hx)

/-- Slots and images, as `RetiringKept` says. -/
def RetiresKept (s : State) : Prop := RetiringPlayed s ∧ ∀ m ∈ s.heldImages, m.SettledSlots

theorem retiresKept_iff (s : State) : RetiresKept s ↔ RetiringKept s := and_congr_left' (retiringPlayed_iff s)

theorem retiresKept_congr {s t : State} (h : RetiresKept s) (played : RetiringPlayed t) (image : t.image = s.image)
    (store : t.store = s.store) : RetiresKept t := by
  refine ⟨played, ?_⟩
  rw [heldImages_congr image store]
  exact h.2

theorem retiresKept_act {s t : State} (act : Act s t) (h : RetiresKept s) : RetiresKept t := by
  obtain ⟨played, images⟩ := h
  have kept : RetiresKept s := ⟨played, images⟩
  cases act with
  | ports | raised | cleared | froze | offered | patternWritten | windowOut | rawMoved | debounced | snapshot | pinLow
  | pinHigh => exact kept
  | refreshed => rw [startWatchdog_frame]; exact kept
  | reset =>
    refine ⟨fun n retiring => absurd retiring ?_, forall_heldImages_of_idle (P := Image.SettledSlots) images rfl rfl⟩
    refine status_ne_retiring_of_bank (forall_mem_mapBank fun x _ => ?_) n
    unfold Slot.afterReset
    split
    · exact nofun
    · assumption
  | loaded =>
    rw [endLoad_frame]
    have settled := imageToLoad_of_held settledSlots_factory images
    refine ⟨fun n retiring => ?_, images⟩
    exact absurd retiring (status_ne_retiring_of_bank settled n)
  | entered _ run =>
    have started : RetiringPlayed (State.acceptLines { s with stage := .running }).startWatchdog := by
      rw [startWatchdog_frame]; exact played
    have played' := retiringPlayed_playActs run started
    refine retiresKept_congr (s := s) kept played' (run.frame.image.trans ?_) (run.frame.store.trans ?_)
    all_goals rw [startWatchdog_frame]; rfl
  | played _ run =>
    have played' := retiringPlayed_playActs run played
    exact retiresKept_congr (s := s) kept played' run.frame.image run.frame.store
  | wrote _ status =>
    refine ⟨fun k retiring => ?_, images⟩
    rw [slot_setSlot] at retiring
    split at retiring
    · exact absurd retiring status
    · exact played k retiring
  | channel one => rw [one.frame]; exact kept
  | configured => rw [applyConfig_frame]; exact kept
  | saving owner =>
    exact ⟨played, forall_heldImages_startSave (P := Image.SettledSlots) owner images (settledSlots_imageContents s)⟩
  | saved =>
    exact ⟨by rw [saveCompletion_frame]; exact played, forall_heldImages_saveCompletion (P := Image.SettledSlots) images⟩
  | failed =>
    exact ⟨by rw [saveFailure_frame]; exact played, forall_heldImages_saveFailure (P := Image.SettledSlots) images⟩
  | exited =>
    have released := retiringPlayed_playActs (playActs_exitFallback s) played
    have played' : RetiringPlayed s.exitFallback := by
      rw [exitFallback_eq, startWatchdog_frame]; exact released
    refine retiresKept_congr (s := s) kept played' ?_ ?_
    all_goals rw [exitFallback_frame]; rfl
  | fellBack =>
    have played' := retiringPlayed_playActs (playActs_enterFallback s) played
    refine retiresKept_congr (s := s) kept played' ?_ ?_
    all_goals rw [enterFallback_frame]; rfl

theorem keepsCues_tick (s : State) : KeepsCues s s.tick := by
  intro j p hp
  obtain ⟨timer, read⟩ := play_tick s j
  exact ⟨{ p with timer := timer p }, by rw [read, hp]; rfl, rfl⟩

theorem retiresKept_tick {s : State} (h : RetiresKept s) : RetiresKept s.tick := by
  have frame := tick_frame s
  refine retiresKept_congr h (retiringPlayed_congr h.1 (keepsCues_tick s) fun n retiring => ?_) ?_ ?_
  · rw [frame] at retiring; exact retiring
  all_goals rw [frame]

/-- Settles O57: a slot becomes RETIRING only over a play of its cue, and is freed where that play ends; every other act keeps
the cue of every play. -/
theorem everyStepKeepsAPlayForEveryRetiringSlot : Obligations.EveryStepKeepsAPlayForEveryRetiringSlot := by
  intro s t kept h
  exact (retiresKept_iff t).mp <| step_keeps (P := RetiresKept) (fun _ _ hs => hs) (fun _ _ hs => hs)
    (fun _ _ hs => retiresKept_tick hs) (fun _ _ act hs => retiresKept_act act hs) h ((retiresKept_iff s).mpr kept)

end Sys2Proof.Machine
end

section
/-! The fallback play: in record 24 alone, at priority 16, and in FADEOUT while fallback is off (02 R28, 07 R157, R159). -/

namespace Sys2Proof.Machine

/-- What `FallbackKept` says of the play in record `id`, while fallback is on or off. -/
def Play.KeptIn (p : Play) (id : Nat) (on : Bool) : Prop :=
  if id = 24 then
    p.source = .fallback ∧ p.priority = 16 ∧ p.pendingRestart = false ∧ (on = false → p.phase.beforeFade = false)
  else p.source ≠ .fallback ∧ p.priority ≤ 15

def PlaysKept (s : State) : Prop := ∀ id p, s.play id = some p → p.KeptIn id s.fallbackOn

/-- No record of a slot has a priority above 15. -/
def SlotsBounded (s : State) : Prop := ∀ n, (s.slot n).record.priority ≤ 15

def Image.PrioritiesOk (m : Image) : Prop := ∀ x ∈ m.slots.toList, x.record.priority ≤ 15

theorem keptIn_ordinary {p : Play} {id : Nat} {on : Bool} (h : id ≠ 24) :
    p.KeptIn id on ↔ p.source ≠ .fallback ∧ p.priority ≤ 15 := by rw [Play.KeptIn, if_neg h]

theorem keptIn_fallback {p : Play} {on : Bool} : p.KeptIn 24 on ↔
    p.source = .fallback ∧ p.priority = 16 ∧ p.pendingRestart = false ∧ (on = false → p.phase.beforeFade = false) := by
  rw [Play.KeptIn, if_pos rfl]

theorem slotsBounded_iff (s : State) : SlotsBounded s ↔ ∀ x ∈ s.slots.toList, x.record.priority ≤ 15 := by
  constructor
  · intro h x hx
    obtain ⟨n, hn⟩ := (mem_toList_iff_at1 _ x).mp hx
    simpa [State.slot, hn] using h n
  · intro h n
    unfold State.slot
    cases hx : at1 s.slots n with
    | none => exact (by decide : CueRecord.empty.priority ≤ 15)
    | some x => exact h x (mem_of_at1 hx)

theorem playsKept_iff (s : State) : PlaysKept s ↔
    (∀ id ∈ List.range' 1 23, ∀ p ∈ s.play id, p.source ≠ .fallback ∧ p.priority ≤ 15) ∧
    (∀ p ∈ s.play 24, p.source = .fallback ∧ p.priority = 16 ∧ p.pendingRestart = false) ∧
    (s.fallbackOn = false → ∀ p ∈ s.play 24, p.phase.beforeFade = false) := by
  constructor
  · intro h
    refine ⟨fun id hid p hp => ?_, fun p hp => ?_, fun off p hp => ?_⟩
    · have range := List.mem_range'_1.mp hid
      exact (keptIn_ordinary (by omega)).mp (h id p hp)
    · obtain ⟨source, priority, pending, -⟩ := keptIn_fallback.mp (h 24 p hp)
      exact ⟨source, priority, pending⟩
    · obtain ⟨-, -, -, fading⟩ := keptIn_fallback.mp (h 24 p hp)
      exact fading off
  · rintro ⟨ordinary, fallback, fading⟩ id p hp
    by_cases h24 : id = 24
    · subst h24
      obtain ⟨source, priority, pending⟩ := fallback p hp
      exact keptIn_fallback.mpr ⟨source, priority, pending, fun off => fading off p hp⟩
    · have range := id_of_play s id p hp
      exact (keptIn_ordinary h24).mpr (ordinary id (List.mem_range'_1.mpr ⟨range.1, by omega⟩) p hp)

/-- The plays and the records, without the images. -/
def EngineKept (s : State) : Prop := PlaysKept s ∧ SlotsBounded s

theorem fallbackKept_iff (s : State) : FallbackKept s ↔ EngineKept s ∧ ∀ m ∈ s.heldImages, m.PrioritiesOk := by
  unfold EngineKept
  rw [playsKept_iff, slotsBounded_iff]
  constructor
  · rintro ⟨ordinary, fallback, fading, slots, images⟩
    exact ⟨⟨⟨ordinary, fallback, fading⟩, slots⟩, images⟩
  · rintro ⟨⟨⟨ordinary, fallback, fading⟩, slots⟩, images⟩
    exact ⟨ordinary, fallback, fading, slots, images⟩

/-! ## The play acts -/

theorem priority_le_of_gives {s : State} (slots : SlotsBounded s) {priority : Nat} (h : s.GivesPriority priority) :
    priority ≤ 15 := by
  rcases h with low | ⟨n, rfl⟩
  · exact low
  · exact slots n

/-- What a restart gives the play of a record is what the record may hold: the fallback play has no pending restart, and it is
before FADEOUT only while fallback is on. -/
theorem kept_restarted {s : State} (h : EngineKept s) {id : Nat} {p : Play} (hp : s.play id = some p) {source : Source}
    {priority : Nat} (may : MayRestart s id p source priority) (r : CueRecord) (cue : Nat) :
    (r.begin cue source priority).KeptIn id s.fallbackOn := by
  have kept := h.1 id p hp
  have in24 : p.source = .fallback → id = 24 := fun fallback => by
    by_contra other
    exact ((keptIn_ordinary other).mp kept).1 fallback
  have on_of_24 : id = 24 → p.phase.beforeFade = true → s.fallbackOn = true := by
    rintro rfl before
    by_contra off
    obtain ⟨-, -, -, fading⟩ := keptIn_fallback.mp kept
    rw [fading (by simpa using off)] at before
    exact nomatch before
  have begins24 : s.fallbackOn = true → (r.begin cue .fallback 16).KeptIn 24 s.fallbackOn := fun on =>
    keptIn_fallback.mpr ⟨rfl, rfl, rfl, fun off => nomatch on.symm.trans off⟩
  cases may with
  | pending pending gives =>
    by_cases h24 : id = 24
    · subst h24
      obtain ⟨-, -, none_pending, -⟩ := keptIn_fallback.mp kept
      exact nomatch pending.symm.trans none_pending
    · exact (keptIn_ordinary h24).mpr ⟨((keptIn_ordinary h24).mp kept).1, priority_le_of_gives h.2 gives⟩
  | ordinary was source gives =>
    have other : id ≠ 24 := by
      rintro rfl
      exact was (keptIn_fallback.mp kept).1
    exact (keptIn_ordinary other).mpr ⟨source, priority_le_of_gives h.2 gives⟩
  | chained fallback before =>
    obtain rfl := in24 fallback
    exact begins24 (on_of_24 rfl before)
  | entry h24 on =>
    subst h24
    exact begins24 on

theorem kept_made {s : State} (slots : SlotsBounded s) {id : Nat} {source : Source} {priority : Nat}
    (may : MayHold s id source priority) (r : CueRecord) (cue : Nat) :
    (r.begin cue source priority).KeptIn id s.fallbackOn := by
  cases may with
  | ordinary low high source gives => exact (keptIn_ordinary (by omega)).mpr ⟨source, priority_le_of_gives slots gives⟩
  | entry on => exact keptIn_fallback.mpr ⟨rfl, rfl, rfl, fun off => nomatch on.symm.trans off⟩

theorem slotsBounded_endPlay {s : State} (h : SlotsBounded s) (id : Nat) : SlotsBounded (s.endPlay id) := by
  intro n
  cases hp : s.play id with
  | none => rw [endPlay_of_none hp]; exact h n
  | some p =>
    rw [slot_endPlay hp]
    split
    · exact (by decide : CueRecord.empty.priority ≤ 15)
    · exact h n

theorem slotsBounded_evictAll {s : State} (h : SlotsBounded s) (cue : Nat) (marks : List Nat) :
    SlotsBounded (s.evictAll cue marks) := by
  intro n
  rw [slot_evictAll]
  split
  · exact (by decide : CueRecord.empty.priority ≤ 15)
  · exact h n

theorem engineKept_endPlay {s : State} (h : EngineKept s) (id : Nat) : EngineKept (s.endPlay id) := by
  refine ⟨fun j p hp => ?_, slotsBounded_endPlay h.2 id⟩
  rw [play_endPlay_all] at hp
  split at hp
  · exact nomatch hp
  · rw [(playFrame_endPlay s id).fallbackOn]
    exact h.1 j p hp

theorem engineKept_vacated {s m : State} {n : Nat} (vacated : Vacated s n m) (h : EngineKept s) : EngineKept m := by
  cases vacated with
  | absent => exact h
  | ended => exact engineKept_endPlay h _

/-- A record that is filled with a play it may hold, where every other one holds what it held or nothing. -/
theorem engineKept_fillRecord {s t : State} (h : EngineKept s) (slots : SlotsBounded t) (on : t.fallbackOn = s.fallbackOn)
    {id cue : Nat} {source : Source} {priority : Nat} (range : 1 ≤ id ∧ id ≤ 24)
    (others : ∀ j p, j ≠ id → t.play j = some p → s.play j = some p)
    (kept : ((t.slot cue).record.begin cue source priority).KeptIn id s.fallbackOn) :
    EngineKept (t.fillRecord id cue source priority) := by
  refine ⟨fun j p hp => ?_, fun n => by rw [slot_fillRecord]; exact slots n⟩
  rw [(playFrame_fillRecord t id cue source priority).fallbackOn, on]
  rw [play_fillRecord t range] at hp
  split at hp
  · next here => rw [here, ← Option.some.inj hp]; exact kept
  · next other => exact h.1 j p (others j p other hp)

/-- What a chain gives the play that hands over (02 R29). -/
theorem kept_chained {s : State} (h : EngineKept s) {id : Nat} {p : Play} (hp : s.play id = some p)
    (before : p.phase.beforeFade = true) (r : CueRecord) (cue n : Nat) :
    (r.begin cue p.chainSource (p.chainPriority (s.slot n).record.priority)).KeptIn id s.fallbackOn := by
  by_cases fallback : p.source = .fallback
  · rw [Play.chainSource, Play.chainPriority, if_pos fallback, if_pos fallback]
    exact kept_restarted h hp (.chained fallback before) r cue
  · rw [Play.chainSource, Play.chainPriority, if_neg fallback, if_neg fallback]
    exact kept_restarted h hp (.ordinary (source := .chain) fallback (by decide) (.inr ⟨n, rfl⟩)) r cue

theorem engineKept_playAct {s t : State} (act : PlayAct s t) (h : EngineKept s) : EngineKept t := by
  cases act with
  | event => exact h
  | @adjusted id p q hp _ source priority pending fade =>
    refine ⟨fun j x hx => ?_, h.2⟩
    rw [play_setPlay_of_play hp] at hx
    split at hx
    · next here =>
      obtain rfl := Option.some.inj hx
      subst here
      have kept := h.1 j p hp
      by_cases h24 : j = 24
      · subst h24
        obtain ⟨fallback, sixteen, quiet, fading⟩ := keptIn_fallback.mp kept
        refine keptIn_fallback.mpr ⟨source.trans fallback, priority.trans sixteen, ?_, fun off => fade (fading off)⟩
        by_contra again
        rcases pending (by simpa using again) with was | ordinary
        · exact nomatch was.symm.trans quiet
        · exact ordinary fallback
      · rw [keptIn_ordinary h24] at kept ⊢
        rw [source, priority]
        exact kept
    · exact h.1 j x hx
  | ended => exact engineKept_endPlay h _
  | restarted hp may =>
    rw [restart_eq_fillRecord hp]
    exact engineKept_fillRecord h h.2 rfl (id_of_play _ _ _ hp) (fun _ _ _ hj => hj) (kept_restarted h hp may _ _)
  | @admitted id cue source priority marks _ _ _ may =>
    refine engineKept_fillRecord h (slotsBounded_evictAll h.2 cue marks) (playFrame_evictAll s cue marks).fallbackOn
      (range_of_mayHold may) (fun j p _ hj => ?_) (kept_made h.2 may _ _)
    rw [play_evictAll] at hj
    exact (Option.ite_none_left_eq_some.mp hj).2
  | @handedOver m id cue p marks vacated hp _ _ before =>
    have ready := engineKept_vacated vacated h
    refine engineKept_fillRecord (t := (m.evictAll cue marks).removeClaims id) ready (slotsBounded_evictAll ready.2 cue marks)
      (playFrame_evictAll m cue marks).fallbackOn (id_of_play _ _ _ hp) (fun j q _ hj => ?_) (kept_chained ready hp before _ _ _)
    have read := (play_evictAll m cue marks j).symm.trans hj
    exact (Option.ite_none_left_eq_some.mp read).2
  | @converted id cue p _ hp empty on =>
    refine ⟨fun j q hq => ?_, fun n => by rw [State.slot, convert_slots]; exact h.2 n⟩
    rw [(playFrame_convert s id p).fallbackOn]
    rw [play_convert hp] at hq
    split at hq
    · next here =>
      rw [here, ← Option.some.inj hq]
      exact keptIn_fallback.mpr ⟨rfl, rfl, rfl, fun off => nomatch on.symm.trans off⟩
    · exact h.1 j q (Option.ite_none_left_eq_some.mp hq).2
  | @edited n x _ priority =>
    refine ⟨h.1, fun k => ?_⟩
    rw [slot_setSlot]
    split
    · rw [priority]; exact h.2 n
    · exact h.2 k
  | @rewritten m n x vacated _ priority =>
    have ready := engineKept_vacated vacated h
    refine ⟨ready.1, fun k => ?_⟩
    rw [slot_setSlot]
    split
    · exact priority
    · exact ready.2 k

theorem engineKept_playActs {s t : State} (run : PlayActs s t) (h : EngineKept s) : EngineKept t :=
  run.keeps (fun _ _ => engineKept_playAct) h

/-! ## The exit from fallback, and the acts -/

/-- Fallback is on at the moment of its entry, so the fallback play may stand in any phase (07 R151). -/
theorem engineKept_fallbackEntered {s : State} (h : EngineKept s) : EngineKept s.fallbackEntered := by
  refine ⟨fun id p hp => ?_, h.2⟩
  have was := h.1 id p hp
  by_cases h24 : id = 24
  · subst h24
    obtain ⟨fallback, sixteen, quiet, -⟩ := keptIn_fallback.mp was
    exact keptIn_fallback.mpr ⟨fallback, sixteen, quiet, nofun⟩
  · rw [keptIn_ordinary h24] at was ⊢
    exact was

/-- With the flag off the fallback play, released, is in FADEOUT or has ended (07 R159). -/
theorem engineKept_exitFallback {s : State} (h : EngineKept s) : EngineKept s.exitFallback := by
  rw [exitFallback_eq, startWatchdog_frame]
  have ordinary (j : Nat) (p : Play) (h24 : j ≠ 24) (hp : s.play j = some p) : p.KeptIn j false := by
    have kept := h.1 j p hp
    rw [keptIn_ordinary h24] at kept ⊢
    exact kept
  show EngineKept (State.releasePlay { s with fallbackOn := false } 24)
  cases hp : s.play 24 with
  | none =>
    have nothing : State.releasePlay { s with fallbackOn := false } 24 = { s with fallbackOn := false } := by
      unfold State.releasePlay
      rw [show State.play { s with fallbackOn := false } 24 = none from hp]
    rw [nothing]
    refine ⟨fun j p hj => ordinary j p ?_ hj, h.2⟩
    rintro rfl
    exact nomatch hp.symm.trans hj
  | some p =>
    have hp' : State.play { s with fallbackOn := false } 24 = some p := hp
    obtain ⟨fallback, sixteen, quiet, -⟩ := keptIn_fallback.mp (h.1 24 p hp)
    have setPlay (q : Play) (kept : q.KeptIn 24 false) :
        EngineKept (State.setPlay { s with fallbackOn := false } 24 (some q)) := by
      refine ⟨fun j x hx => ?_, h.2⟩
      rw [play_setPlay_of_play hp'] at hx
      split at hx
      · next here => rw [here, ← Option.some.inj hx]; exact kept
      · next other => exact ordinary j x other hx
    have ended : EngineKept (State.endPlay { s with fallbackOn := false } 24) := by
      refine ⟨fun j x hx => ?_, slotsBounded_endPlay (s := { s with fallbackOn := false }) h.2 24⟩
      rw [play_endPlay_all] at hx
      obtain ⟨other, hx⟩ := Option.ite_none_left_eq_some.mp hx
      rw [(playFrame_endPlay _ 24).fallbackOn]
      exact ordinary j x other hx
    have release : EngineKept
        (if (State.recordOf { s with fallbackOn := false } p).releaseFade = 0 then
          State.endOrRestart { s with fallbackOn := false } 24
        else State.setPlay { s with fallbackOn := false } 24
          (some (p.toFadeout (State.recordOf { s with fallbackOn := false } p)))) := by
      split
      · unfold State.endOrRestart
        rw [hp']
        simp only [quiet, Bool.false_eq_true, if_false]
        exact ended
      · exact setPlay _ (keptIn_fallback.mpr ⟨fallback, sixteen, quiet, fun _ => rfl⟩)
    unfold State.releasePlay
    rw [hp']
    dsimp only
    split
    · next fading =>
      refine ⟨fun j x hj => ?_, h.2⟩
      by_cases h24 : j = 24
      · subst h24
        obtain rfl := Option.some.inj (hp.symm.trans hj)
        exact keptIn_fallback.mpr ⟨fallback, sixteen, quiet, fun _ => by rw [fading]; rfl⟩
      · exact ordinary j x h24 hj
    all_goals exact release

theorem prioritiesOk_factory : Image.factory.PrioritiesOk := by
  intro x hx
  simp only [Image.factory, Vector.toList_replicate, List.mem_replicate] at hx
  rw [hx.2]
  decide

theorem prioritiesOk_imageContents {s : State} (h : SlotsBounded s) : s.imageContents.PrioritiesOk := by
  refine forall_mem_mapBank fun x hx => ?_
  unfold Slot.stored
  split
  · exact (slotsBounded_iff s).mp h x hx
  all_goals exact (by decide : CueRecord.empty.priority ≤ 15)

theorem play_partReset (s : State) (cause : ResetCause) (id : Nat) : (s.partReset cause).play id = none := by
  show (at1 (Vector.replicate 24 (none : Option Play)) id).join = none
  cases hx : at1 (Vector.replicate 24 (none : Option Play)) id with
  | none => rfl
  | some o =>
    have mem := mem_of_at1 hx
    simp only [Vector.toList_replicate, List.mem_replicate] at mem
    rw [mem.2]
    rfl

theorem claimList_partReset (s : State) (cause : ResetCause) (c : Nat) : (s.partReset cause).claimList c = [] := by
  show (at1 (Vector.replicate 16 ([] : List Nat)) c).getD [] = []
  cases hx : at1 (Vector.replicate 16 ([] : List Nat)) c with
  | none => rfl
  | some l =>
    have mem := mem_of_at1 hx
    simp only [Vector.toList_replicate, List.mem_replicate] at mem
    rw [mem.2]
    rfl

/-- `FallbackKept`, with the images apart. -/
def WholeFallbackKept (s : State) : Prop := EngineKept s ∧ ∀ m ∈ s.heldImages, m.PrioritiesOk

theorem wholeFallbackKept_congr {s t : State} (h : WholeFallbackKept s) (engine : EngineKept t) (image : t.image = s.image)
    (store : t.store = s.store) : WholeFallbackKept t := by
  refine ⟨engine, ?_⟩
  rw [heldImages_congr image store]
  exact h.2

theorem wholeFallbackKept_act {s t : State} (act : Act s t) (h : WholeFallbackKept s) : WholeFallbackKept t := by
  obtain ⟨engine, images⟩ := h
  have kept : WholeFallbackKept s := ⟨engine, images⟩
  cases act with
  | ports | raised | cleared | froze | offered | patternWritten | windowOut | rawMoved | debounced | snapshot | pinLow
  | pinHigh => exact kept
  | refreshed => rw [startWatchdog_frame]; exact kept
  | reset powered low cause =>
    refine ⟨⟨fun id p hp => ?_, ?_⟩, forall_heldImages_of_idle (P := Image.PrioritiesOk) images rfl rfl⟩
    · exact nomatch (play_partReset _ cause id).symm.trans hp
    · refine (slotsBounded_iff _).mpr (forall_mem_mapBank fun x hx => ?_)
      unfold Slot.afterReset
      split
      · exact (by decide : CueRecord.empty.priority ≤ 15)
      · exact (slotsBounded_iff s).mp engine.2 x hx
  | loaded =>
    rw [endLoad_frame]
    have bounded := imageToLoad_of_held prioritiesOk_factory images
    exact ⟨⟨engine.1, (slotsBounded_iff _).mpr bounded⟩, images⟩
  | entered _ run =>
    have started : EngineKept (State.acceptLines { s with stage := .running }).startWatchdog := by
      rw [startWatchdog_frame]; exact engine
    have engine' := engineKept_playActs run started
    refine wholeFallbackKept_congr (s := s) kept engine' (run.frame.image.trans ?_) (run.frame.store.trans ?_)
    all_goals rw [startWatchdog_frame]; rfl
  | played _ run =>
    have engine' := engineKept_playActs run engine
    exact wholeFallbackKept_congr (s := s) kept engine' run.frame.image run.frame.store
  | wrote _ _ priority =>
    refine ⟨⟨engine.1, fun k => ?_⟩, images⟩
    rw [slot_setSlot]
    split
    · exact priority
    · exact engine.2 k
  | channel one => rw [one.frame]; exact kept
  | configured => rw [applyConfig_frame]; exact kept
  | saving owner =>
    exact ⟨engine, forall_heldImages_startSave (P := Image.PrioritiesOk) owner images (prioritiesOk_imageContents engine.2)⟩
  | saved =>
    exact ⟨by rw [saveCompletion_frame]; exact engine, forall_heldImages_saveCompletion (P := Image.PrioritiesOk) images⟩
  | failed =>
    exact ⟨by rw [saveFailure_frame]; exact engine, forall_heldImages_saveFailure (P := Image.PrioritiesOk) images⟩
  | exited =>
    refine wholeFallbackKept_congr (s := s) kept (engineKept_exitFallback engine) ?_ ?_
    all_goals rw [exitFallback_frame]; rfl
  | fellBack =>
    have engine' := engineKept_playActs (playActs_enterFallback s) (engineKept_fallbackEntered engine)
    refine wholeFallbackKept_congr (s := s) kept engine' ?_ ?_
    all_goals rw [enterFallback_frame]; rfl

theorem wholeFallbackKept_tick {s : State} (h : WholeFallbackKept s) : WholeFallbackKept s.tick := by
  have frame := tick_frame s
  refine wholeFallbackKept_congr h ⟨fun id p hp => ?_, fun n => ?_⟩ ?_ ?_
  · obtain ⟨timer, read⟩ := play_tick s id
    rw [read] at hp
    obtain ⟨q, hq, rfl⟩ := Option.map_eq_some_iff.mp hp
    rw [frame]
    exact h.1.1 id q hq
  · rw [frame]
    exact h.1.2 n
  all_goals rw [frame]

/-- Settles O56: a play is made or restarted only with what its record may hold, the fallback play has no pending restart to
take, and the exit from fallback puts it in FADEOUT. -/
theorem everyStepKeepsTheFallbackPlay : Obligations.EveryStepKeepsTheFallbackPlay := by
  intro s t kept h
  exact (fallbackKept_iff t).mpr <| step_keeps (P := WholeFallbackKept) (fun _ _ hs => hs) (fun _ _ hs => hs)
    (fun _ _ hs => wholeFallbackKept_tick hs) (fun _ _ act hs => wholeFallbackKept_act act hs) h
    ((fallbackKept_iff s).mp kept)

end Sys2Proof.Machine
end

section
/-! The claim lists and the play records agree after every step (02 R27, 04 R77, R78, R80). -/

namespace Sys2Proof.Machine

/-! ## A claim placed keeps the order (04 R78, R81) -/

theorem pairwise_place {rank : Nat → Nat} {l : List Nat} (sorted : l.Pairwise fun a b => rank b ≤ rank a) (id : Nat) :
    (place (fun j => decide (rank id < rank j)) id l).Pairwise fun a b => rank b ≤ rank a := by
  obtain ⟨front, back, rfl, placed, behind, ahead⟩ := place_spec (fun j => decide (rank id < rank j)) id l
  obtain ⟨hfront, hback, across⟩ := List.pairwise_append.mp sorted
  have above (j : Nat) (hj : j ∈ front) : rank id ≤ rank j := by
    obtain ⟨init, last, rfl⟩ := List.eq_nil_or_concat' front |>.resolve_left (List.ne_nil_of_mem hj)
    have higher : rank id < rank last := of_decide_eq_true (behind last (by simp))
    rcases List.mem_append.mp hj with hj | hj
    · exact higher.le.trans ((List.pairwise_append.mp hfront).2.2 j hj last (by simp))
    · rw [List.mem_singleton.mp hj]; exact higher.le
  have below (j : Nat) (hj : j ∈ back) : rank j ≤ rank id := Nat.not_lt.mp (of_decide_eq_false (ahead j hj))
  rw [placed]
  refine List.pairwise_append.mpr ⟨hfront, List.pairwise_cons.mpr ⟨below, hback⟩, fun a ha b hb => ?_⟩
  rcases List.mem_cons.mp hb with rfl | hb
  · exact above a ha
  · exact across a ha b hb

theorem nodup_place {higher : Nat → Bool} {id : Nat} {l : List Nat} (nodup : l.Nodup) (fresh : id ∉ l) :
    (place higher id l).Nodup := by
  obtain ⟨front, back, rfl, placed, -, -⟩ := place_spec higher id l
  rw [placed]
  exact List.nodup_middle.mpr (List.nodup_cons.mpr ⟨fresh, nodup⟩)

/-! ## The claims agree with the plays -/

/-- The list `l` of channel `c` claims for the plays among `counted` whose cues name `c`, and for no other record. -/
structure ListAgrees (s : State) (counted : Nat → Prop) (c : Nat) (l : List Nat) : Prop where
  short : l.length ≤ 6
  nodup : l.Nodup
  ordered : s.Ordered l
  plays : ∀ id ∈ l, counted id ∧ (s.play id).isSome = true
  claims : ∀ id p, counted id → s.play id = some p → (id ∈ l ↔ c ∈ (s.recordOf p).channelNumbers)

/-- No two plays among `counted` have one cue (02 R27). -/
def UniqueCues (s : State) (counted : Nat → Prop) : Prop :=
  ∀ a b p q, counted a → counted b → s.play a = some p → s.play b = some q → p.cue = q.cue → a = b

/-- What `ClaimsKept` says of the claim lists and the play records. -/
def ClaimsAgree (s : State) : Prop :=
  UniqueCues s (fun _ => True) ∧ ∀ c ∈ channelIds, ListAgrees s (fun _ => True) c (s.claimList c)

/-- The same with record `id`, and the claims that name it, left out. -/
def AgreesApart (s : State) (id : Nat) : Prop :=
  UniqueCues s (· ≠ id) ∧ ∀ c ∈ channelIds, ListAgrees s (· ≠ id) c ((s.claimList c).filter (· != id))

/-- Outside RUNNING there is no play (02 R27). -/
def SilentUnlessRunning (s : State) : Prop := s.running = false → ∀ id, s.play id = none

theorem claimsKept_iff (s : State) : ClaimsKept s ↔ ClaimsAgree s ∧ SilentUnlessRunning s := by
  have inside (id : Nat) (p : Play) (hp : s.play id = some p) : id ∈ playIds := (mem_playIds id).mpr (id_of_play s id p hp)
  constructor
  · rintro ⟨unique, lists, silent⟩
    refine ⟨⟨fun a b p q _ _ hp hq => unique a (inside a p hp) b (inside b q hq) p hp q hq, fun c hc => ?_⟩,
      fun stopped id => ?_⟩
    · obtain ⟨short, nodup, ordered, plays, claims⟩ := lists c hc
      exact ⟨short, nodup, ordered, fun id hid => ⟨trivial, (plays id hid).2⟩,
        fun id p _ hp => claims id (inside id p hp) p hp⟩
    · by_contra played
      obtain ⟨p, hp⟩ := Option.ne_none_iff_exists'.mp played
      exact played (silent stopped id (inside id p hp))
  · rintro ⟨⟨unique, lists⟩, silent⟩
    refine ⟨fun a _ b _ p hp q hq => unique a b p q trivial trivial hp hq, fun c hc => ?_, fun stopped id _ => silent stopped id⟩
    obtain ⟨short, nodup, ordered, plays, claims⟩ := lists c hc
    refine ⟨short, nodup, ordered, fun id hid => ?_, fun id _ p hp => claims id p trivial hp⟩
    obtain ⟨p, hp⟩ := Option.isSome_iff_exists.mp (plays id hid).2
    exact ⟨inside id p hp, (plays id hid).2⟩

/-- The claims see of a play its cue, its priority and the channels of its cue. -/
theorem claimsAgree_congr {s t : State} (h : ClaimsAgree s) (claims : ∀ c, t.claimList c = s.claimList c)
    (plays : ∀ id, (t.play id).map (fun p => (p.cue, p.priority)) = (s.play id).map fun p => (p.cue, p.priority))
    (channels : ∀ id p, s.play id = some p → (t.recordOf p).channelNumbers = (s.recordOf p).channelNumbers) :
    ClaimsAgree t := by
  have before (id : Nat) (q : Play) (hq : t.play id = some q) :
      ∃ p, s.play id = some p ∧ p.cue = q.cue ∧ p.priority = q.priority := by
    have same := plays id
    rw [hq, Option.map_some, eq_comm, Option.map_eq_some_iff] at same
    obtain ⟨p, hp, both⟩ := same
    exact ⟨p, hp, (Prod.mk.inj both).1, (Prod.mk.inj both).2⟩
  have priority (id : Nat) : t.priorityOf id = s.priorityOf id := by
    have same := congrArg (Option.map Prod.snd) (plays id)
    simp only [Option.map_map] at same
    exact congrArg (·.getD 0) same
  have there (id : Nat) : (t.play id).isSome = (s.play id).isSome := by
    simpa using congrArg Option.isSome (plays id)
  refine ⟨fun a b p q _ _ hp hq same => ?_, fun c hc => ?_⟩
  · obtain ⟨p', hp', cp, -⟩ := before a p hp
    obtain ⟨q', hq', cq, -⟩ := before b q hq
    exact h.1 a b p' q' trivial trivial hp' hq' (cp.trans (same.trans cq.symm))
  · obtain ⟨short, nodup, ordered, members, claimed⟩ := h.2 c hc
    rw [claims c]
    refine ⟨short, nodup, ordered.imp fun hab => by rw [priority, priority]; exact hab,
      fun id hid => ⟨trivial, (there id).trans (members id hid).2⟩, fun id q _ hq => ?_⟩
    obtain ⟨p, hp, cue, -⟩ := before id q hq
    have record : t.recordOf q = t.recordOf p := by rw [State.recordOf, State.recordOf, cue]
    rw [record, channels id p hp]
    exact claimed id p trivial hp

/-- Without a play and without a claim. -/
theorem claimsAgree_silent {s : State} (plays : ∀ id, s.play id = none) (claims : ∀ c, s.claimList c = []) : ClaimsAgree s := by
  refine ⟨fun a _ p _ _ _ hp => (nomatch (plays a).symm.trans hp), fun c _ => ?_⟩
  rw [claims c]
  exact ⟨Nat.zero_le _, List.nodup_nil, .nil, fun _ h => (nomatch h), fun id p _ hp => nomatch (plays id).symm.trans hp⟩

theorem claimList_silent {s : State} (h : ClaimsAgree s) (plays : ∀ id, s.play id = none) (c : Nat) : s.claimList c = [] := by
  by_cases hc : c ∈ channelIds
  · refine List.eq_nil_iff_forall_not_mem.mpr fun id hid => ?_
    exact nomatch plays id ▸ ((h.2 c hc).plays id hid).2
  · exact claimList_outside s hc

/-- A record without a play has no claim. -/
theorem no_claim_of_no_play {s : State} (h : ClaimsAgree s) {id c : Nat} (hc : c ∈ channelIds) (hp : s.play id = none) :
    id ∉ s.claimList c := fun claim => nomatch hp ▸ ((h.2 c hc).plays id claim).2

theorem agreesApart_of_agree {s : State} (h : ClaimsAgree s) (id : Nat) : AgreesApart s id := by
  refine ⟨fun a b p q _ _ => h.1 a b p q trivial trivial, fun c hc => ?_⟩
  obtain ⟨short, nodup, ordered, plays, claims⟩ := h.2 c hc
  refine ⟨(List.length_filter_le _ _).trans short, nodup.filter _, ordered.filter _, fun j hj => ?_, fun j p other hp => ?_⟩
  · obtain ⟨hj, other⟩ := List.mem_filter.mp hj
    exact ⟨by simpa using other, (plays j hj).2⟩
  · rw [List.mem_filter, ← claims j p trivial hp]
    simp [other]

/-! ## The end of a play -/

/-- With the play of `id` gone and its claims removed, all the rest agrees as it did. -/
theorem claimsAgree_of_apart {s t : State} {id : Nat} (h : AgreesApart s id) (gone : t.play id = none)
    (others : ∀ j, j ≠ id → t.play j = s.play j) (claims : ∀ c, t.claimList c = (s.claimList c).filter (· != id))
    (channels : ∀ j p, j ≠ id → s.play j = some p → (t.recordOf p).channelNumbers = (s.recordOf p).channelNumbers) :
    ClaimsAgree t := by
  have other_of (j : Nat) (p : Play) (hp : t.play j = some p) : j ≠ id := by
    rintro rfl
    exact nomatch gone.symm.trans hp
  refine ⟨fun a b p q _ _ hp hq => ?_, fun c hc => ?_⟩
  · have ha := other_of a p hp
    have hb := other_of b q hq
    rw [others a ha] at hp
    rw [others b hb] at hq
    exact h.1 a b p q ha hb hp hq
  · obtain ⟨short, nodup, ordered, plays, claimed⟩ := h.2 c hc
    rw [claims c]
    refine ⟨short, nodup, ordered.imp_of_mem fun ha hb hab => ?_, fun j hj => ?_, fun j p _ hp => ?_⟩
    · rw [State.priorityOf, State.priorityOf, others _ (plays _ ha).1, others _ (plays _ hb).1]
      exact hab
    · rw [others j (plays j hj).1]
      exact ⟨trivial, (plays j hj).2⟩
    · have hj := other_of j p hp
      rw [others j hj] at hp
      rw [channels j p hj hp]
      exact claimed j p hj hp

theorem claimsAgree_endPlay {s : State} (h : ClaimsAgree s) (id : Nat) : ClaimsAgree (s.endPlay id) := by
  cases hp : s.play id with
  | none => rw [endPlay_of_none hp]; exact h
  | some p =>
    refine claimsAgree_of_apart (agreesApart_of_agree h id) (play_endPlay s id) (fun j hj => play_endPlay_other s hj)
      (claimList_endPlay hp) fun j q hj hq => ?_
    have distinct : q.cue ≠ p.cue := fun same => hj (h.1 j id q p trivial trivial hq hp same)
    rw [State.recordOf, slot_endPlay hp, if_neg fun both => distinct both.1]
    rfl

theorem claimsAgree_evict {s : State} (h : ClaimsAgree s) (cue id : Nat) : ClaimsAgree (s.evict cue id) := by
  cases hp : s.play id with
  | none => rw [evict_of_none hp]; exact h
  | some p => rw [evict_of_play hp]; exact claimsAgree_congr (claimsAgree_endPlay h id) (fun _ => rfl) (fun _ => rfl) fun _ _ _ => rfl

theorem claimsAgree_evictAll {s : State} (h : ClaimsAgree s) (cue : Nat) (marks : List Nat) :
    ClaimsAgree (s.evictAll cue marks) := by
  induction marks generalizing s with
  | nil => exact h
  | cons id marks ih => exact ih (claimsAgree_evict h cue id)

/-! ## A record that is filled -/

/-- A record filled for a cue that no other play has: its claims arrive on the channels of that cue, which have room. -/
theorem claimsAgree_fillRecord {s : State} {id cue : Nat} (h : AgreesApart s id) (range : 1 ≤ id ∧ id ≤ 24)
    (fresh : ∀ j q, j ≠ id → s.play j = some q → q.cue ≠ cue)
    (room : ∀ c ∈ channelIds, c ∈ (s.slot cue).record.channelNumbers → ((s.claimList c).filter (· != id)).length < 6)
    (gone : ∀ c ∈ channelIds, c ∉ (s.slot cue).record.channelNumbers → id ∉ s.claimList c) (source : Source)
    (priority : Nat) : ClaimsAgree (s.fillRecord id cue source priority) := by
  have here : (s.fillRecord id cue source priority).play id = some ((s.slot cue).record.begin cue source priority) := by
    rw [play_fillRecord s range, if_pos rfl]
  have others (j : Nat) (hj : j ≠ id) : (s.fillRecord id cue source priority).play j = s.play j := by
    rw [play_fillRecord s range, if_neg hj]
  have record (q : Play) : (s.fillRecord id cue source priority).recordOf q = s.recordOf q := by
    rw [State.recordOf, slot_fillRecord]; rfl
  have rank (j : Nat) (hj : j ≠ id) : (s.fillRecord id cue source priority).priorityOf j = s.priorityOf j := by
    rw [State.priorityOf, others j hj]; rfl
  have rank_id : (s.fillRecord id cue source priority).priorityOf id = priority := priorityOf_of_play here
  refine ⟨fun a b p q _ _ hp hq same => ?_, fun c hc => ?_⟩
  · by_cases ha : a = id <;> by_cases hb : b = id
    · exact ha.trans hb.symm
    · rw [ha, here] at hp
      rw [others b hb] at hq
      exact absurd (same.symm.trans (Option.some.inj hp ▸ rfl)) (fresh b q hb hq)
    · rw [hb, here] at hq
      rw [others a ha] at hp
      exact absurd (same.trans (Option.some.inj hq ▸ rfl)) (fresh a p ha hp)
    · rw [others a ha] at hp
      rw [others b hb] at hq
      exact h.1 a b p q ha hb hp hq same
  · obtain ⟨short, nodup, ordered, plays, claimed⟩ := h.2 c hc
    have sorted : (s.fillRecord id cue source priority).Ordered ((s.claimList c).filter (· != id)) :=
      ordered.imp_of_mem fun ha hb hab => by rw [rank _ (plays _ ha).1, rank _ (plays _ hb).1]; exact hab
    have still (j : Nat) (hj : j ∈ (s.claimList c).filter (· != id)) :
        ((s.fillRecord id cue source priority).play j).isSome = true := by
      rw [others j (plays j hj).1]; exact (plays j hj).2
    rw [claimList_fillRecord s range cue source priority hc]
    split
    · next on =>
      have fresh_claim : id ∉ (s.claimList c).filter (· != id) := by simp
      have placed := pairwise_place sorted id
      rw [rank_id] at placed
      refine ⟨by rw [length_place]; exact room c hc on, nodup_place nodup fresh_claim, placed, fun j hj => ?_,
        fun j q _ hq => ?_⟩
      · refine ⟨trivial, ?_⟩
        rcases (mem_place _ _ _ _).mp hj with rfl | hj
        · rw [here]; rfl
        · exact still j hj
      · rw [mem_place, record]
        by_cases hj : j = id
        · rw [hj, here] at hq
          rw [← Option.some.inj hq]
          exact iff_of_true (.inl hj) on
        · rw [others j hj] at hq
          rw [or_iff_right hj]
          exact claimed j q hj hq
    · next off =>
      have absent := gone c hc off
      have same : s.claimList c = (s.claimList c).filter (· != id) :=
        (List.filter_eq_self.mpr fun j hj => by simpa using fun e : j = id => absent (e ▸ hj)).symm
      rw [same]
      refine ⟨short, nodup, sorted, fun j hj => ⟨trivial, still j hj⟩, fun j q _ hq => ?_⟩
      rw [record]
      by_cases hj : j = id
      · rw [hj, here] at hq
        rw [hj, ← Option.some.inj hq]
        exact iff_of_false (by simp) off
      · rw [others j hj] at hq
        exact claimed j q hj hq

theorem length_filter_ne_lt {l : List Nat} {id : Nat} (claim : id ∈ l) (short : l.length ≤ 6) :
    (l.filter (· != id)).length < 6 := by
  refine lt_of_lt_of_le ?_ short
  exact List.length_filter_lt_length_iff_exists.mpr ⟨id, claim, by simp⟩

/-- A play's own cue: no other play has it, the channels of the cue have the play's claims, and no other one has. -/
theorem claimsAgree_restart {s : State} (h : ClaimsAgree s) {id : Nat} {p : Play} (hp : s.play id = some p)
    (source : Source) (priority : Nat) : ClaimsAgree (s.restart id source priority) := by
  rw [restart_eq_fillRecord hp]
  refine claimsAgree_fillRecord (agreesApart_of_agree h id) (id_of_play _ _ _ hp)
    (fun j q hj hq same => hj (h.1 j id q p trivial trivial hq hp same)) (fun c hc on => ?_) (fun c hc off claim => ?_) _ _
  · exact length_filter_ne_lt (((h.2 c hc).claims id p trivial hp).mpr on) (h.2 c hc).short
  · exact off (((h.2 c hc).claims id p trivial hp).mp claim)

/-- The plays that a check marks exist, and none is marked twice (04 R83, R84). -/
theorem marks_of_check {s : State} (h : ClaimsAgree s) {cs : List Nat} {priority : Nat} {absent : Option Nat}
    {marks : List Nat} (check : s.admissionCheck cs priority absent = .admits marks) :
    (∀ e ∈ marks, (s.play e).isSome = true) ∧ marks.Nodup := by
  obtain ⟨-, rfl⟩ := (admissionCheck_admits_iff s cs priority absent marks).mp check
  refine ⟨fun e he => ?_, nodup_foldl_markOnce _ List.nodup_nil⟩
  obtain ⟨d, -, full, last⟩ := (mem_marks_iff s cs absent e).mp he
  have claim : e ∈ s.claimList d := List.mem_of_mem_filter (List.mem_of_getLast? last)
  by_cases hd : d ∈ channelIds
  · exact ((h.2 d hd).plays e claim).2
  · rw [claimList_outside s hd] at claim; exact nomatch claim

/-- On a channel that the check passed there is room once the marked plays are evicted (04 R83, R86). -/
theorem room_after_evictions {s : State} (h : ClaimsAgree s) {cs : List Nat} {priority : Nat} {absent : Option Nat}
    {marks : List Nat} (check : s.admissionCheck cs priority absent = .admits marks) (cue : Nat) {c : Nat}
    (hc : c ∈ channelIds) (on : c ∈ cs) :
    (((s.evictAll cue marks).claimList c).filter fun j => some j != absent).length < 6 := by
  obtain ⟨marked_plays, nodup⟩ := marks_of_check h check
  obtain ⟨-, rfl⟩ := (admissionCheck_admits_iff s cs priority absent marks).mp check
  have judged_short : (s.judgedList absent c).length ≤ 6 := (List.length_filter_le _ _).trans (h.2 c hc).short
  rw [claimList_evictAll marked_plays nodup, List.filter_filter]
  have smaller : ((s.claimList c).filter fun j => (some j != absent) &&
      decide (j ∉ (cs.filterMap (s.lastOfFull absent)).foldl markOnce [])) =
      (s.judgedList absent c).filter fun j => decide (j ∉ (cs.filterMap (s.lastOfFull absent)).foldl markOnce []) := by
    rw [State.judgedList, List.filter_filter]
    congr 1
    funext j
    exact Bool.and_comm _ _
  rw [smaller]
  by_cases full : 6 ≤ (s.judgedList absent c).length
  · cases last : (s.judgedList absent c).getLast? with
    | none => rw [List.getLast?_eq_none_iff.mp last] at full; exact absurd full (by decide)
    | some e =>
      have marked := (mem_marks_iff s cs absent e).mpr ⟨c, on, full, last⟩
      refine lt_of_lt_of_le (List.length_filter_lt_length_iff_exists.mpr ⟨e, List.mem_of_getLast? last, ?_⟩) judged_short
      simp [marked]
  · exact lt_of_le_of_lt (List.length_filter_le _ _) (Nat.not_le.mp full)

/-- Where no play of the cue stands, evictions leave its slot. -/
theorem slot_evictAll_of_absent {s : State} {n : Nat} (absent : s.playOf n = none) (cue : Nat) (marks : List Nat) :
    (s.evictAll cue marks).slot n = s.slot n := by
  rw [slot_evictAll, if_neg]
  rintro ⟨-, played⟩
  obtain ⟨e, -, hit⟩ := List.any_eq_true.mp played
  obtain ⟨p, hp, hc⟩ := (Option.any_eq_true _ _).mp hit
  exact playOf_none_iff.mp absent e p hp (by simpa using hc)

theorem play_of_evictAll {s : State} {cue j : Nat} {marks : List Nat} {q : Play}
    (h : (s.evictAll cue marks).play j = some q) : s.play j = some q := by
  rw [play_evictAll] at h
  exact (Option.ite_none_left_eq_some.mp h).2

theorem claimsAgree_admitted {s : State} (h : ClaimsAgree s) {id cue : Nat} {source : Source} {priority : Nat}
    {marks : List Nat} (absent : s.playOf cue = none)
    (check : s.admissionCheck (s.slot cue).record.channelNumbers priority = .admits marks)
    (empty : (s.evictAll cue marks).play id = none) (range : 1 ≤ id ∧ id ≤ 24) :
    ClaimsAgree ((s.evictAll cue marks).fillRecord id cue source priority) := by
  have left := claimsAgree_evictAll h cue marks
  have unclaimed {c : Nat} (hc : c ∈ channelIds) : id ∉ (s.evictAll cue marks).claimList c := no_claim_of_no_play left hc empty
  refine claimsAgree_fillRecord (agreesApart_of_agree left id) range
    (fun j q _ hq => playOf_none_iff.mp absent j q (play_of_evictAll hq)) (fun c hc on => ?_) (fun c hc _ => unclaimed hc) _ _
  rw [slot_evictAll_of_absent absent] at on
  have room := room_after_evictions h check cue hc on
  have whole (l : List Nat) : (l.filter fun j => some j != none) = l := List.filter_eq_self.mpr fun _ _ => rfl
  rw [whole] at room
  exact lt_of_le_of_lt (List.length_filter_le _ _) room

theorem agreesApart_removeClaims {s : State} {id : Nat} (h : AgreesApart s id) : AgreesApart (s.removeClaims id) id := by
  refine ⟨h.1, fun c hc => ?_⟩
  rw [claimList_removeClaims, List.filter_filter, show (fun j => (j != id) && (j != id)) = fun j : Nat => j != id from
    funext fun _ => Bool.and_self _]
  obtain ⟨short, nodup, ordered, plays, claims⟩ := h.2 c hc
  exact ⟨short, nodup, ordered, plays, claims⟩

theorem playOf_vacated {s m : State} {n : Nat} (vacated : Vacated s n m) (h : ClaimsAgree s) : m.playOf n = none := by
  cases vacated with
  | absent none => exact none
  | @ended id found =>
    refine playOf_none_iff.mpr fun j q hq same => ?_
    rw [play_endPlay_all] at hq
    obtain ⟨hj, hq⟩ := Option.ite_none_left_eq_some.mp hq
    obtain ⟨-, p, hp, hc⟩ := playOf_some found
    exact hj (h.1 j id q p trivial trivial hq hp (same.trans hc.symm))

theorem claimsAgree_vacated {s m : State} {n : Nat} (vacated : Vacated s n m) (h : ClaimsAgree s) : ClaimsAgree m := by
  cases vacated with
  | absent => exact h
  | ended => exact claimsAgree_endPlay h _

theorem claimsAgree_handedOver {m : State} (h : ClaimsAgree m) {id cue : Nat} {source : Source} {priority : Nat}
    {marks : List Nat} (absent : m.playOf cue = none) (range : 1 ≤ id ∧ id ≤ 24)
    (check : m.admissionCheck (m.slot cue).record.channelNumbers priority (some id) = .admits marks) :
    ClaimsAgree (((m.evictAll cue marks).removeClaims id).fillRecord id cue source priority) := by
  have left := claimsAgree_evictAll h cue marks
  refine claimsAgree_fillRecord (agreesApart_removeClaims (agreesApart_of_agree left id)) range
    (fun j q _ hq => playOf_none_iff.mp absent j q (play_of_evictAll hq)) (fun c hc on => ?_) (fun c _ _ => ?_) _ _
  · have here : ((m.evictAll cue marks).removeClaims id).slot cue = m.slot cue := slot_evictAll_of_absent absent cue marks
    rw [here] at on
    have room := room_after_evictions h check cue hc on
    rw [claimList_removeClaims]
    refine lt_of_le_of_lt (List.length_filter_le _ _) ?_
    have same : (fun j : Nat => some j != some id) = fun j => j != id := by
      funext j
      rw [Bool.eq_iff_iff, bne_iff_ne, bne_iff_ne, ne_eq, Option.some_inj]
    rw [← same]
    exact room
  · rw [claimList_removeClaims, List.mem_filter]
    exact fun both => absurd both.2 (by simp)

/-- A record where the claims of one play name another, empty one. -/
theorem claimList_renameClaims (s : State) (old new c : Nat) :
    (s.renameClaims old new).claimList c = (s.claimList c).map fun id => if id = old then new else id := by
  cases h : at1 s.claims c <;> simp [State.claimList, State.renameClaims, h]

theorem filter_rename {l : List Nat} {old new : Nat} (fresh : new ∉ l) :
    (l.map fun id => if id = old then new else id).filter (· != new) = l.filter (· != old) := by
  induction l with
  | nil => rfl
  | cons a l ih =>
    obtain ⟨ha, hl⟩ := not_or.mp (mt List.mem_cons.mpr fresh)
    rw [List.map_cons, List.filter_cons, List.filter_cons, ih hl]
    by_cases old_here : a = old
    · simp [old_here]
    · simp [old_here, Ne.symm ha]

/-- The conversion fills record 24 with the play that `id` gave up (07 R153, 04 R95). -/
theorem convert_eq_fillRecord (s : State) (id : Nat) (p : Play) :
    s.convert id p = ((s.setPlay id none).renameClaims id 24).fillRecord 24 p.cue .fallback 16 := rfl

theorem claimsAgree_convert {s : State} (h : ClaimsAgree s) {id : Nat} {p : Play} (hp : s.play id = some p)
    (empty : s.play 24 = none) : ClaimsAgree (s.convert id p) := by
  have fresh {c : Nat} (hc : c ∈ channelIds) : 24 ∉ s.claimList c := no_claim_of_no_play h hc empty
  have plays (j : Nat) : ((s.setPlay id none).renameClaims id 24).play j = if j = id then none else s.play j :=
    play_setPlay_of_play hp j none
  have was {j : Nat} {q : Play} (hq : ((s.setPlay id none).renameClaims id 24).play j = some q) : j ≠ id ∧ s.play j = some q := by
    rw [plays] at hq
    exact Option.ite_none_left_eq_some.mp hq
  have lists (c : Nat) : ((s.setPlay id none).renameClaims id 24).claimList c =
      (s.claimList c).map fun j => if j = id then 24 else j := claimList_renameClaims _ id 24 c
  have apart : AgreesApart ((s.setPlay id none).renameClaims id 24) 24 := by
    refine ⟨fun a b q r _ _ hq hr => h.1 a b q r trivial trivial (was hq).2 (was hr).2, fun c hc => ?_⟩
    obtain ⟨short, nodup, ordered, members, claims⟩ := (agreesApart_of_agree h id).2 c hc
    rw [lists, filter_rename (fresh hc)]
    refine ⟨short, nodup, ordered.imp_of_mem fun ha hb hab => ?_, fun j hj => ⟨?_, ?_⟩, fun j q _ hq => ?_⟩
    · rw [State.priorityOf, State.priorityOf, plays, plays, if_neg (members _ ha).1, if_neg (members _ hb).1]
      exact hab
    · rintro rfl
      exact fresh hc (List.mem_of_mem_filter hj)
    · rw [plays, if_neg (members j hj).1]
      exact (members j hj).2
    · exact claims j q (was hq).1 (was hq).2
  rw [convert_eq_fillRecord]
  refine claimsAgree_fillRecord apart (by decide) (fun j q _ hq same => ?_) (fun c hc on => ?_) (fun c hc off => ?_) _ _
  · exact (was hq).1 (h.1 j id q p trivial trivial (was hq).2 hp same)
  · rw [lists, filter_rename (fresh hc)]
    exact length_filter_ne_lt (((h.2 c hc).claims id p trivial hp).mpr on) (h.2 c hc).short
  · rw [lists, List.mem_map]
    rintro ⟨j, claim, named⟩
    split at named
    · next here => exact off (((h.2 c hc).claims id p trivial hp).mp (here ▸ claim))
    · exact fresh hc (named ▸ claim)

/-! ## Every act -/

theorem claimsAgree_setSlot_of_absent {s : State} (h : ClaimsAgree s) {n : Nat} (absent : s.playOf n = none) (x : Slot) :
    ClaimsAgree (s.setSlot n x) := by
  refine claimsAgree_congr h (fun _ => rfl) (fun _ => rfl) fun id p hp => ?_
  rw [State.recordOf, slot_setSlot, if_neg fun both => playOf_none_iff.mp absent id p hp both.1]
  rfl

theorem claimsAgree_playAct {s t : State} (act : PlayAct s t) (h : ClaimsAgree s) : ClaimsAgree t := by
  cases act with
  | event => exact claimsAgree_congr h (fun _ => rfl) (fun _ => rfl) fun _ _ _ => rfl
  | @adjusted id p q hp cue _ priority =>
    refine claimsAgree_congr h (fun _ => rfl) (fun j => ?_) fun _ _ _ => rfl
    rw [play_setPlay_of_play hp]
    split
    · next here => rw [here, hp, Option.map_some, Option.map_some, cue, priority]
    · rfl
  | ended => exact claimsAgree_endPlay h _
  | restarted hp => exact claimsAgree_restart h hp _ _
  | admitted absent check empty may => exact claimsAgree_admitted h absent check empty (range_of_mayHold may)
  | handedOver vacated hp _ _ _ check =>
    exact claimsAgree_handedOver (claimsAgree_vacated vacated h) (playOf_vacated vacated h) (id_of_play _ _ _ hp) check
  | converted _ hp empty => exact claimsAgree_convert h hp empty
  | @edited n x channels =>
    refine claimsAgree_congr h (fun _ => rfl) (fun _ => rfl) fun id p _ => ?_
    rw [State.recordOf, slot_setSlot]
    split
    · next here => rw [CueRecord.channelNumbers, channels, ← here.1]; rfl
    · rfl
  | rewritten vacated =>
    exact claimsAgree_setSlot_of_absent (claimsAgree_vacated vacated h) (playOf_vacated vacated h) _

theorem claimsAgree_playActs {s t : State} (run : PlayActs s t) (h : ClaimsAgree s) : ClaimsAgree t :=
  run.keeps (fun _ _ => claimsAgree_playAct) h

/-- Plays, claim lists and slots as they were. -/
theorem claimsAgree_of_same {s t : State} (h : ClaimsAgree s) (claims : t.claims = s.claims) (plays : t.plays = s.plays)
    (slots : t.slots = s.slots) : ClaimsAgree t :=
  claimsAgree_congr h (fun c => by rw [State.claimList, claims]; rfl) (fun id => by rw [State.play, plays]; rfl)
    fun id p _ => by rw [State.recordOf, State.slot, slots]; rfl

/-- `ClaimsKept`, as the acts keep it. -/
def WholeClaimsKept (s : State) : Prop := ClaimsAgree s ∧ SilentUnlessRunning s

theorem running_of_played {s : State} (h : SilentUnlessRunning s)
    (live : s.running = true ∨ ∃ id p, s.play id = some p) : s.running = true := by
  rcases live with running | ⟨id, p, hp⟩
  · exact running
  · by_contra stopped
    exact nomatch (h (by simpa using stopped) id).symm.trans hp

theorem wholeClaimsKept_of_same {s t : State} (h : WholeClaimsKept s) (claims : t.claims = s.claims) (plays : t.plays = s.plays)
    (slots : t.slots = s.slots) (stage : t.stage = s.stage) : WholeClaimsKept t := by
  refine ⟨claimsAgree_of_same h.1 claims plays slots, fun stopped id => ?_⟩
  rw [State.play, plays]
  exact h.2 (by rw [State.running, ← stage]; exact stopped) id

/-- What is left on a RUNNING part, once the outputs follow. -/
theorem wholeClaimsKept_drive {s : State} (h : ClaimsAgree s) (running : s.running = true) : WholeClaimsKept s.drive :=
  ⟨claimsAgree_of_same h rfl rfl rfl, fun stopped => nomatch stopped.symm.trans running⟩

theorem wholeClaimsKept_act {s t : State} (act : Act s t) (held : HeldKept s) (watchdog : WatchdogKept s)
    (h : WholeClaimsKept s) : WholeClaimsKept t := by
  cases act with
  | ports | raised | cleared | froze | offered | patternWritten | windowOut | rawMoved | debounced | snapshot | pinLow
  | saving => exact wholeClaimsKept_of_same h rfl rfl rfl rfl
  | refreshed => rw [startWatchdog_frame]; exact wholeClaimsKept_of_same h rfl rfl rfl rfl
  | pinHigh low =>
    have silent : ∀ id, s.play id = none := h.2 (by rw [State.running, held (.inl low)]; rfl)
    exact ⟨claimsAgree_of_same h.1 rfl rfl rfl, fun _ => silent⟩
  | reset =>
    exact ⟨claimsAgree_silent (play_partReset _ _) (claimList_partReset _ _), fun _ => play_partReset _ _⟩
  | loaded loading =>
    have silent : ∀ id, s.play id = none := h.2 (by rw [State.running, loading]; rfl)
    have unclaimed := claimList_silent h.1 silent
    rw [endLoad_frame]
    exact ⟨claimsAgree_silent silent unclaimed, fun _ => silent⟩
  | entered _ run =>
    have started : ClaimsAgree (State.acceptLines { s with stage := .running }).startWatchdog := by
      rw [startWatchdog_frame]; exact claimsAgree_of_same h.1 rfl rfl rfl
    refine wholeClaimsKept_drive (claimsAgree_playActs run started) ?_
    rw [State.running, run.frame.stage, startWatchdog_frame]
    rfl
  | played live run =>
    refine wholeClaimsKept_drive (claimsAgree_playActs run h.1) ?_
    rw [State.running, run.frame.stage]
    exact running_of_played h.2 live
  | wrote absent =>
    exact ⟨claimsAgree_setSlot_of_absent h.1 absent _, h.2⟩
  | channel one => rw [one.frame]; exact wholeClaimsKept_of_same h rfl rfl rfl rfl
  | configured => rw [applyConfig_frame]; exact wholeClaimsKept_of_same h rfl rfl rfl rfl
  | saved => rw [saveCompletion_frame]; exact wholeClaimsKept_of_same h rfl rfl rfl rfl
  | failed => rw [saveFailure_frame]; exact wholeClaimsKept_of_same h rfl rfl rfl rfl
  | exited running =>
    have released := claimsAgree_playActs (playActs_exitFallback s) (claimsAgree_of_same h.1 rfl rfl rfl)
    refine wholeClaimsKept_drive ?_ ?_
    · rw [exitFallback_eq, startWatchdog_frame]
      exact claimsAgree_of_same released rfl rfl rfl
    · rw [exitFallback_frame]
      exact running
  | fellBack due =>
    have running : s.running = true := by
      by_contra stopped
      exact nomatch due.symm.trans (watchdog_none_of_stopped (s := s) watchdog (by simpa [State.running] using stopped))
    have entered := claimsAgree_playActs (playActs_enterFallback s) (claimsAgree_of_same h.1 rfl rfl rfl)
    refine wholeClaimsKept_drive entered ?_
    rw [enterFallback_frame]
    exact running

theorem wholeClaimsKept_tick {s : State} (h : WholeClaimsKept s) : WholeClaimsKept s.tick := by
  have frame := tick_frame s
  refine ⟨claimsAgree_congr h.1 (fun c => by rw [frame]; rfl) (fun id => ?_) fun id p _ => by rw [frame]; rfl,
    fun stopped id => ?_⟩
  · obtain ⟨timer, read⟩ := play_tick s id
    rw [read, Option.map_map]
    rfl
  · obtain ⟨timer, read⟩ := play_tick s id
    rw [read, h.2 ((running_tick s).symm.trans stopped) id]
    rfl

/-- Settles O55: every play act that fills a record finds its cue without another play and its channels with room, and places
the claims in order. -/
theorem everyStepKeepsTheClaimLists : Obligations.EveryStepKeepsTheClaimLists := by
  intro s t held watchdog claims h
  have kept := step_keeps (P := fun s => HeldKept s ∧ WatchdogKept s ∧ WholeClaimsKept s)
    (fun _ _ hs => ⟨hs.1, hs.2.1, wholeClaimsKept_of_same hs.2.2 rfl rfl rfl rfl⟩)
    (fun _ _ hs => ⟨hs.1, hs.2.1, wholeClaimsKept_of_same hs.2.2 rfl rfl rfl rfl⟩)
    (fun _ stage hs => ⟨heldKept_tick stage hs.1, watchdogKept_tick stage hs.2.1, wholeClaimsKept_tick hs.2.2⟩)
    (fun _ _ act hs => ⟨heldKept_act act hs.1, watchdogKept_act act hs.1 hs.2.1, wholeClaimsKept_act act hs.1 hs.2.1 hs.2.2⟩)
    h ⟨held, watchdog, (claimsKept_iff s).mp claims⟩
  exact (claimsKept_iff t).mpr kept.2.2

end Sys2Proof.Machine
end

section
/-! The step, the port checks and the reading requests. -/

namespace Sys2Proof.Machine

/-- Settles O1: the step takes its command by the form of the queue. -/
theorem stepRunsTheFrontCommandOnTheRest : Obligations.StepRunsTheFrontCommandOnTheRest := by
  intro c rest s
  rfl

/-! ## The queue -/

/-- `t` waits for the commands that `s` waits for, and has asked the free value as often. -/
def SameQueue (s t : State) : Prop := t.pending = s.pending ∧ t.ties = s.ties

theorem PlayFrame.queue {s t : State} (h : PlayFrame s t) : SameQueue s t := by
  rw [h]
  exact ⟨rfl, rfl⟩

theorem sameQueue_act {s t : State} (act : Act s t) : SameQueue s t := by
  cases act with
  | ports | reset | raised | cleared | wrote | froze | offered | patternWritten | windowOut | rawMoved | debounced | saving
  | snapshot | pinLow | pinHigh => exact ⟨rfl, rfl⟩
  | refreshed => rw [startWatchdog_frame]; exact ⟨rfl, rfl⟩
  | loaded => rw [endLoad_frame]; exact ⟨rfl, rfl⟩
  | entered _ run =>
    have queue := run.frame.queue
    rw [startWatchdog_frame] at queue
    exact queue
  | played _ run => exact run.frame.queue
  | channel one => rw [one.frame]; exact ⟨rfl, rfl⟩
  | configured => rw [applyConfig_frame]; exact ⟨rfl, rfl⟩
  | saved => rw [saveCompletion_frame]; exact ⟨rfl, rfl⟩
  | failed => rw [saveFailure_frame]; exact ⟨rfl, rfl⟩
  | exited => rw [exitFallback_frame]; exact ⟨rfl, rfl⟩
  | fellBack => rw [enterFallback_frame]; exact ⟨rfl, rfl⟩

/-- Settles O3: every command is a run of acts, and no act touches the queue. -/
theorem everyCommandAnswersANextStateAndKeepsTheQueue : Obligations.EveryCommandAnswersANextStateAndKeepsTheQueue := by
  intro c s
  refine ⟨after c s, exec_eq_after c s, ?_⟩
  have keeps : SameQueue s (after c s) := by
    generalize after c s = t, acts_after c s = run
    induction run with
    | refl => exact ⟨rfl, rfl⟩
    | tail _ act ih => exact ⟨(sameQueue_act act).1.trans ih.1, (sameQueue_act act).2.trans ih.2⟩
  exact keeps

/-! ## Requests by their class (08 R164, R166) -/

/-- Every request is a block behind the port checks of its class. -/
theorem exec_of_requestOf {i : Instr} {k : RequestClass} {via : Via} (h : requestOf i = some (k, via)) :
    ∃ block, ∀ s, exec i s = done (s.request k via block) := by
  cases i <;> cases h <;> exact ⟨_, fun _ => rfl⟩

/-- A request that is taken is answered as its block answers it. -/
theorem request_replied {s t u : State} {k : RequestClass} {via : Via} {block : Origin → State → Answer} {o : Origin}
    {st : Status} {payload : List Byte} (h : Taken s k via t o)
    (answer : block o t = { state := u, reply := ⟨st, payload⟩ }) :
    done (s.request k via block) = replied u st payload o := by
  rw [done, replied, request_taken s t k via block o h, answer]

theorem running_of_taken {s t : State} {k : RequestClass} {via : Via} {o : Origin} (h : Taken s k via t o) :
    t.running = true := running_of_portCheck h.2.1

/-- Settles O5: a request's arrival, its class and the port checks decide before its block. -/
theorem portChecksRefuseInTheirOrder : Obligations.PortChecksRefuseInTheirOrder := by
  intro i k via s t request
  obtain ⟨block, meaning⟩ := exec_of_requestOf request
  have refused (o : Origin) (st : Status) (arrives : s.receive via = (t, some o)) (heard : ¬(o = .group ∧ k = .reading))
      (check : t.portCheck k o = some st) : exec i s = replied t st [] o := by
    rw [meaning, done, request_refused s t k via block o st arrives heard check]
    rfl
  refine ⟨fun arrives => ?_, fun reading arrives => ?_, fun o arrives heard => ⟨fun stopped => ?_, fun running unknown => ?_,
    fun running known edits port mode => ?_, fun running linkOnly port mode => ?_⟩⟩
  · rw [meaning, request_not_taken s t k via block arrives]; rfl
  · subst reading
    rw [meaning, request_ignored s t via block arrives]; rfl
  · exact refused o _ arrives heard (by simp [State.portCheck, stopped])
  · exact refused o _ arrives heard (by simp [State.portCheck, running, unknown])
  · exact refused o _ arrives heard (by simp [State.portCheck, running, known, edits, port, mode])
  · exact refused o _ arrives heard (by simp [State.portCheck, running, linkOnly, port, mode])

/-- A request that carries no payload is answered BAD_ARG when it carries one. -/
theorem readNothing_of_ne_nil {payload : List Byte} (h : payload ≠ []) : readNothing payload = none := by
  cases payload with
  | nil => exact absurd rfl h
  | cons => rfl

/-- Settles O6: KEEPALIVE's block leaves the state, and no block stands behind an unknown code. -/
theorem keepaliveAndUnknownCodesDoNothingElse : Obligations.KeepaliveAndUnknownCodesDoNothingElse := by
  refine fun via payload code s t o => ⟨fun taken => request_replied taken ?_, fun arrives running => ?_⟩
  · unfold State.keepaliveBlock
    by_cases empty : payload = []
    · subst empty; rfl
    · rw [readNothing_of_ne_nil empty, if_neg empty]; rfl
  · have check : t.portCheck .unknown o = some .badRequest := by simp [State.portCheck, running]
    have answer : exec (.badRequest via code) s = .next ((t.refuse .badRequest).send o) :=
      congrArg done (request_refused s t .unknown via State.unknownBlock o .badRequest arrives (fun both => nomatch both.2) check)
    rw [answer]
    cases o <;> rfl

/-! ## Reading requests -/

theorem statusBlock_of_running {t : State} (running : t.running = true) : t.statusBlock =
    [1, t.resetCause.code, if t.fallbackOn then 1 else 0, t.entryCount, if t.frozen then 1 else 0,
      t.thermal.state.code, (match t.thermal.lastReading with | none => 0xFF | some r => byte (r + 40).toNat),
      (match t.store with | .idle => 0 | .saving _ _ => 1),
      (match t.store with | .idle => 0xFF | .saving .buildingLink _ => 0 | .saving .servicePort _ => 1),
      if t.imageValid then 1 else 0, t.serviceMode.code,
      byte (playIds.filter fun id => (t.play id).isSome).length,
      byte (t.flags.toNat / 256), byte t.flags.toNat] := by
  have store : t.store.bytes = [(match t.store with | .idle => 0 | .saving _ _ => 1),
      (match t.store with | .idle => 0xFF | .saving .buildingLink _ => 0 | .saving .servicePort _ => 1)] := by
    cases t.store with
    | idle => rfl
    | saving owner _ => cases owner <;> rfl
  unfold State.statusBlock
  rw [running, store, State.playTotal, List.countP_eq_length_filter]
  rfl

/-- The eight lines of a bank, by their numbers. -/
theorem map_lines {α : Type} (i : Items) (f : LineItems → α) :
    i.lines.toList.map f = lineIds.map fun l => f ((at1 i.lines l).getD LineItems.factory) := by
  refine List.ext_getElem? fun n => ?_
  rw [List.getElem?_map, List.getElem?_map, ← at1_eq_toList]
  by_cases inside : n < 8
  · obtain ⟨x, hx⟩ := Option.isSome_iff_exists.mp ((at1_isSome_iff i.lines (n + 1)).mpr ⟨by omega, by omega⟩)
    rw [lineIds, List.getElem?_range' inside, Nat.one_mul, Nat.add_comm 1 n, hx, Option.map_some, Option.map_some, hx]
    rfl
  · have outside : at1 i.lines (n + 1) = none := by
      rw [← Option.not_isSome_iff_eq_none, at1_isSome_iff]; omega
    rw [outside, lineIds, List.getElem?_eq_none (by rw [List.length_range']; omega)]
    rfl

theorem itemsBytes_eq (i : Items) : i.bytes =
    [byte i.unitAddress, byte i.groups.length] ++ ((i.groups.map byte) ++ [0, 0, 0, 0]).take 4 ++
      [i.baud.code, i.watchdogPeriod, i.watchdogUnit.code, byte i.fallbackCue,
        i.startPolicy.code, byte i.startCue, byte i.settleDelay, i.serviceMode.code,
        byte i.maxRetries, i.retryDelay, i.goodRunTime, i.deglitch.code,
        byte i.averaging.samples, byte i.warn, byte i.shutdown, byte i.hysteresis,
        byte i.derate] ++
      (lineIds.map fun l => if ((at1 i.lines l).getD LineItems.factory).enabled then 1 else 0) ++
      (lineIds.map fun l => lineLevelCode ((at1 i.lines l).getD LineItems.factory).activeLevel) ++
      (lineIds.map fun l => byte ((at1 i.lines l).getD LineItems.factory).debounce.ms) ++
      [byte (i.attentionMask.toNat / 256), byte i.attentionMask.toNat] := by
  rw [Items.bytes, map_lines, map_lines, map_lines]
  rfl

theorem length_itemsBytes (i : Items) : i.bytes.length = 49 := by
  simp [itemsBytes_eq, lineIds]

/-- Settles O7: the three blocks are the bytes of the state in which the request is taken. -/
theorem statusEventsAndConfigurationAreReported : Obligations.StatusEventsAndConfigurationAreReported := by
  intro via s t o taken
  refine ⟨request_replied taken ?status, request_replied taken ?events, request_replied taken rfl, itemsBytes_eq t.config,
    length_itemsBytes t.config, fun payload carried => ?payload⟩
  case status => exact congrArg (fun bytes => t.ok bytes) (statusBlock_of_running (running_of_taken taken))
  case events =>
    refine congrArg (fun bytes => t.ok bytes) ?_
    unfold State.eventsBlock refusalBytes evictionBytes
    cases t.lastRefusal <;> cases t.lastEviction <;> rfl
  case payload =>
    have malformed := readNothing_of_ne_nil carried
    refine ⟨request_replied taken ?_, request_replied taken ?_, request_replied taken ?_⟩
    · rw [State.readStatusBlock, malformed]; rfl
    · rw [State.readEventsBlock, malformed]; rfl
    · rw [State.readConfigBlock, malformed]; rfl

/-- Settles O8: each lookup answers from the slots as they stand. -/
theorem cueLookupsReport : Obligations.CueLookupsReport := by
  intro via payload s t o taken
  refine ⟨?read, ?list, ?find⟩
  case read =>
    cases operands : readOne 1 64 payload with
    | none => exact request_replied taken (by rw [State.readCueBlock, operands]; rfl)
    | some n => exact request_replied taken (by rw [State.readCueBlock, operands]; rfl)
  case list =>
    cases operands : readFirst 64 payload with
    | none => exact request_replied taken (by rw [State.listCuesBlock, operands]; rfl)
    | some first => exact request_replied taken (by rw [State.listCuesBlock, operands]; rfl)
  case find =>
    cases operands : readLabel payload with
    | none => exact request_replied taken (by rw [State.findCueBlock, operands]; rfl)
    | some label =>
      have first : (t.slotsLabelled label).head? =
          slotIds.find? fun n => (t.slot n).status != .free && (t.slot n).record.label == label := List.head?_filter ..
      dsimp only
      rw [← first]
      cases found : (t.slotsLabelled label).head? with
      | none => exact request_replied taken (by rw [State.findCueBlock, operands, readThen_some, found]; rfl)
      | some n => exact request_replied taken (by rw [State.findCueBlock, operands, readThen_some, found]; rfl)

theorem playChannelEntry_eq (s : State) (id : Nat) (p : Play) : s.playChannelEntry id p = fun c =>
    byte c :: bytes2 (playLevel (s.recordOf p) p c) ++ [if s.owner c = some id then 1 else 0] ++
      bytes2 (p.phase.originAt c) := by
  funext c
  by_cases owns : s.owner c = some id <;> simp [State.playChannelEntry, byteOfBool, owns]

theorem lineReport_eq (x : Line) (i : LineItems) : x.report i =
    [if i.enabled then 1 else 0, lineLevelCode x.raw,
      (match x.accepted with | none => 0xFF | some v => lineLevelCode v),
      if x.accepted = some i.activeLevel then 1 else 0, if x.timer.isSome then 1 else 0] := by
  have active : byteOfBool (x.accepted == some i.activeLevel) = if x.accepted = some i.activeLevel then 1 else 0 := by
    by_cases same : x.accepted = some i.activeLevel <;> simp [byteOfBool, same]
  rw [Line.report, active]
  cases x.accepted <;> rfl

/-- Settles O9: each query answers from the records as they stand. -/
theorem playChannelPatternAndInputQueriesReport : Obligations.PlayChannelPatternAndInputQueriesReport := by
  intro via payload s t o taken
  refine ⟨?list, ?play, fun c x operands hx => ?channel, fun k x operands hx => ?pattern, fun malformed => ?outside,
    fun carried => ?payload, fun empty => ?inputs⟩
  case list =>
    cases operands : readFirst 24 payload with
    | none => exact request_replied taken (by rw [State.listPlaysBlock, operands]; rfl)
    | some first => exact request_replied taken (by rw [State.listPlaysBlock, operands]; rfl)
  case play =>
    cases operands : readQueryPlay payload with
    | none => exact request_replied taken (by rw [State.queryPlayBlock, operands]; rfl)
    | some q =>
      obtain ⟨id, first⟩ := q
      dsimp only
      cases hp : t.play id with
      | none => exact request_replied taken (by rw [State.queryPlayBlock, operands, readThen_some, hp]; rfl)
      | some p =>
        refine request_replied taken ?_
        rw [State.queryPlayBlock, operands, readThen_some, hp]
        dsimp only
        rw [State.playReport, playChannelEntry_eq]
        rfl
  case channel => exact request_replied taken (by rw [State.queryChannelBlock, operands, readThen_some, hx]; rfl)
  case pattern => exact request_replied taken (by rw [State.readPatternBlock, operands, readThen_some, hx]; rfl)
  case outside =>
    exact ⟨request_replied taken (by rw [State.queryChannelBlock, malformed]; rfl),
      request_replied taken (by rw [State.readPatternBlock, malformed]; rfl)⟩
  case payload =>
    exact request_replied taken (by rw [State.queryInputsBlock, readNothing_of_ne_nil carried]; rfl)
  case inputs =>
    subst empty
    refine request_replied taken ?_
    rw [State.queryInputsBlock, readNothing, readThen_some]
    refine congrArg (fun bytes => t.ok bytes) ?_
    unfold State.inputsReport
    refine List.flatMap_congr fun l _ => ?_
    cases t.line l with
    | none => rfl
    | some x => exact lineReport_eq x _

end Sys2Proof.Machine
end

section
/-! The requests that edit tables, events, the store and the modes; and the ends of a save. -/

namespace Sys2Proof.Machine

/-! ## Cue edits -/

/-- The other slot that holds a label, as WRITE_CUE looks for it (01 R6). -/
theorem labelHolder_eq (s : State) (n : Nat) (label : List Byte) : s.labelHolder n label =
    slotIds.find? fun m => m != n && label != [] && (s.slot m).status != .free && (s.slot m).record.label == label := by
  unfold State.labelHolder State.slotsLabelled
  by_cases empty : label = []
  · rw [if_pos empty, empty, eq_comm, List.find?_eq_none]
    intro m _
    simp
  · rw [if_neg empty, List.find?_filter]
    congr 1
    funext m
    rw [Bool.eq_iff_iff]
    simp only [Bool.and_eq_true, bne_iff_ne, beq_iff_eq, ne_eq, empty, not_false_eq_true, decide_eq_true_eq, and_true]
    tauto

/-- Settles O10: the checks of the block in their order, and the write of one slot. -/
theorem writeCueIsCheckedAndReplacesTheSlot : Obligations.WriteCueIsCheckedAndReplacesTheSlot := by
  intro via payload s t o taken
  split
  · next saving => exact request_replied taken (editThen_saving _ _ t saving)
  · next idle =>
    have block (a : Answer) (h : readThen (readWriteCue payload) State.writeCue t = a) :
        State.writeCueBlock payload o t = a := (editThen_idle _ _ t (not_not.mp idle)).trans h
    cases operands : readWriteCue payload with
    | none => exact request_replied taken (block _ (by rw [operands]; rfl))
    | some w =>
      rw [operands, readThen_some] at block
      unfold State.writeCue at block
      dsimp only at block ⊢
      rw [labelHolder_eq] at block
      split
      · next retiring => exact request_replied taken (block _ (if_pos retiring))
      · next steady =>
        rw [if_neg steady] at block
        cases busy : t.playOf w.slot with
        | some id => exact request_replied taken (block _ (by rw [busy]; rfl))
        | none =>
          rw [busy] at block
          dsimp only
          split
          · next stale => exact request_replied taken (block _ (if_pos stale))
          · next current =>
            have fresh : ¬staleRevision w.expected (t.slot w.slot).revision = true := current
            split
            · next m holder => exact request_replied taken (block _ (by simp only [if_neg fresh, holder]; rfl))
            · next none => exact request_replied taken (block _ (by simp only [if_neg fresh, none]; rfl))

theorem held_of_ne {x : SlotStatus} (found : x ≠ .free) (steady : x ≠ .retiring) : x = .held := by
  cases x with
  | free => exact absurd rfl found
  | retiring => exact absurd rfl steady
  | held => rfl

theorem setTrim_held {s : State} {n : Nat} (held : (s.slot n).status = .held) (trim : Byte) (expected : Option Byte) :
    State.setTrim (n, trim, expected) s =
      if staleRevision expected (s.slot n).revision then s.refuseWith .stale (s.slot n).revision
      else (s.setSlot n ((s.slot n).trimmed trim)).drive.ok [(s.slot n).revision + 1] := by
  unfold State.setTrim
  dsimp only
  rw [held]

/-- Settles O12: the checks of the block in their order, and the write of one trim before the outputs follow. -/
theorem setTrimIsCheckedAndReplacesTheTrim : Obligations.SetTrimIsCheckedAndReplacesTheTrim := by
  intro via payload s t o taken
  split
  · next saving => exact request_replied taken (editThen_saving _ _ t saving)
  · next idle =>
    have block (a : Answer) (h : readThen (readSetTrim payload) State.setTrim t = a) :
        State.setTrimBlock payload o t = a := (editThen_idle _ _ t (not_not.mp idle)).trans h
    cases operands : readSetTrim payload with
    | none => exact request_replied taken (block _ (by rw [operands]; rfl))
    | some w =>
      obtain ⟨n, trim, expected⟩ := w
      rw [operands, readThen_some] at block
      dsimp only
      split
      · next free => exact request_replied taken (block _ (by rw [State.setTrim, free]; rfl))
      · next found =>
        split
        · next retiring => exact request_replied taken (block _ (by rw [State.setTrim, retiring]; rfl))
        · next steady =>
          have held : (t.slot n).status = .held := held_of_ne found steady
          split
          · next stale => exact request_replied taken (block _ ((setTrim_held held trim expected).trans (if_pos stale)))
          · next current => exact request_replied taken (block _ ((setTrim_held held trim expected).trans (if_neg current)))

theorem cueProtected_iff (s : State) (n : Nat) : s.cueProtected n = true ↔
    s.config.fallbackCue = n ∨ ∃ p, s.play 24 = some p ∧ p.source = .fallback ∧ p.cue = n := by
  simp [State.cueProtected, Option.any_eq_true, Config.fallbackId]

/-- A RETIRE_CUE that is taken while the store is IDLE, with good operands, is answered by the retire. -/
theorem retireCue_taken {via : Via} {payload : List Byte} {s t u : State} {o : Origin} {n : Nat} {graceful : Bool}
    {st : Status} (taken : Taken s .other via t o) (idle : t.store = .idle) (operands : readRetire payload = some (n, graceful))
    (answer : State.retireCue (n, graceful) t = { state := u, reply := ⟨st, []⟩ }) :
    exec (.retireCue via payload) s = replied u st [] o :=
  request_replied taken (by rw [State.retireCueBlock, editThen_idle _ _ t idle, operands, readThen_some, answer])

/-- Settles O13: the checks of the block in their order. -/
theorem retireCueIsRefusedInItsOrder : Obligations.RetireCueIsRefusedInItsOrder := by
  refine fun via payload s t o taken => ⟨fun saving => ?_, fun idle malformed => ?_, fun n graceful idle operands =>
    ⟨fun free => ?_, fun retiring => ?_, fun held guarded => ?_⟩⟩
  · exact request_replied taken (editThen_saving _ _ t saving)
  · exact request_replied taken (by rw [State.retireCueBlock, editThen_idle _ _ t idle, malformed]; rfl)
  · exact retireCue_taken taken idle operands (by rw [State.retireCue, free]; rfl)
  · exact retireCue_taken taken idle operands (by rw [State.retireCue, retiring]; rfl)
  · refine retireCue_taken taken idle operands ?_
    rw [State.retireCue, held]
    exact if_pos ((cueProtected_iff t n).mpr guarded)

/-! ## Plays -/

/-- Settles O15: the start of a profile, by its delay and its end action. -/
theorem aPlayBeginsAtTheStartOfItsProfile : Obligations.APlayBeginsAtTheStartOfItsProfile := by
  intro r cue priority source
  refine ⟨rfl, rfl, rfl, rfl, rfl, fun none => ⟨if_pos none, if_pos none⟩, fun some => ⟨if_neg some, if_neg some⟩, ?_⟩
  show r.repeatsAtStart = _
  unfold CueRecord.repeatsAtStart
  cases r.endAction with
  | repeating n => cases n <;> rfl
  | sustain | release | chain => rfl

/-- A refused trigger leaves the state, and in a group or broadcast frame its refusal is an event (02 R35). -/
theorem trigger_refused {via : Via} {payload : List Byte} {s t : State} {o : Origin} {n : Nat} {override : Option Nat}
    {st : Status} {c : Nat} (taken : Taken s .other via t o) (operands : readTrigger payload = some (n, override))
    (refused : t.triggerFrom4 n o.source override = (t, .refused st c)) :
    exec (.trigger via payload) s = replied (if o = .group then
      { t with flags := t.flags ||| 0x0002, lastRefusal := some ⟨n, .buildingLink, st, c⟩ } else t) st [] o := by
  refine request_replied taken ?_
  rw [State.triggerBlock, operands, readThen_some, State.triggerRequest, refused]
  rfl

theorem triggerFrom4_held {s : State} {n : Nat} (held : (s.slot n).status = .held) (source : Source)
    (override : Option Nat) : s.triggerFrom4 n source override = s.triggerFrom6 n source override := by
  rw [State.triggerFrom4, held]

theorem triggerFrom6_absent {s : State} {n : Nat} (absent : s.playOf n = none) (source : Source) (override : Option Nat) :
    s.triggerFrom6 n source override = s.admitPlay n source (override.getD (s.slot n).record.priority) := by
  rw [State.triggerFrom6, absent]

theorem triggerFrom6_found {s : State} {n id : Nat} {p : Play} (found : s.playOf n = some id) (hp : s.play id = some p)
    (source : Source) (override : Option Nat) : s.triggerFrom6 n source override =
      if p.source = .fallback then (s, .refused .cueProtected 0)
      else s.retrigger id p source (override.getD (s.slot n).record.priority) := by
  rw [State.triggerFrom6, found]
  dsimp only
  rw [hp]

theorem admitPlay_full {s : State} (full : 23 ≤ s.ordinaryTotal) (n : Nat) (source : Source) (priority : Nat) :
    s.admitPlay n source priority = (s, .refused .playFull 0) := if_pos full

theorem admitPlay_fails {s : State} (room : s.ordinaryTotal < 23) {n priority c : Nat}
    (check : s.admissionCheck (s.slot n).record.channelNumbers priority = .fails c) (source : Source) :
    s.admitPlay n source priority = (s, .refused .claimFull c) :=
  (if_neg (Nat.not_le.mpr room)).trans (by rw [check])

/-- Settles O16: each refusal of the trigger's checks, in their order. -/
theorem refusedTriggersChangeNothingButTheRefusalRecord : Obligations.RefusedTriggersChangeNothingButTheRefusalRecord := by
  refine fun via payload s t o taken => ⟨fun malformed => ?_, fun n override operands =>
    ⟨fun free => ?_, fun retiring => ?_, fun id p held found hp fallback => ?_, fun held absent full => ?_,
      fun c held absent room check => ?_⟩⟩
  · exact request_replied taken (by rw [State.triggerBlock, malformed]; rfl)
  · exact trigger_refused taken operands (by rw [State.triggerFrom4, free])
  · exact trigger_refused taken operands (by rw [State.triggerFrom4, retiring])
  · exact trigger_refused taken operands (by rw [triggerFrom4_held held, triggerFrom6_found found hp, if_pos fallback])
  · exact trigger_refused taken operands (by rw [triggerFrom4_held held, triggerFrom6_absent absent, admitPlay_full full])
  · exact trigger_refused taken operands (by rw [triggerFrom4_held held, triggerFrom6_absent absent, admitPlay_fails room check])

/-- Settles O22: the two blocks write one flag. -/
theorem freezeAndThawSetTheFrozenFlag : Obligations.FreezeAndThawSetTheFrozenFlag := by
  refine fun via s t o taken => ⟨request_replied taken rfl, request_replied taken rfl, fun payload carried => ?_⟩
  have malformed := readNothing_of_ne_nil carried
  exact ⟨request_replied taken (by rw [State.freezeBlock, malformed]; rfl),
    request_replied taken (by rw [State.thawBlock, malformed]; rfl)⟩

/-! ## Patterns, the store, events and modes -/

/-- Settles O23: the checks of the block, and the write of one pattern slot. -/
theorem writePatternReplacesTheRecord : Obligations.WritePatternReplacesTheRecord := by
  intro via payload s t o taken
  split
  · next saving => exact request_replied taken (editThen_saving _ _ t saving)
  · next idle =>
    have block : State.writePatternBlock payload o t = readThen (readWritePattern payload) State.writePattern t :=
      editThen_idle _ _ t (not_not.mp idle)
    cases operands : readWritePattern payload with
    | none => exact request_replied taken (by rw [block, operands]; rfl)
    | some w => exact request_replied taken (by rw [block, operands]; rfl)

theorem at1_slots (s : State) {n : Nat} (h : n ∈ slotIds) : at1 s.slots n = some (s.slot n) := by
  have range := List.mem_range'_1.mp h
  obtain ⟨x, hx⟩ := Option.isSome_iff_exists.mp ((at1_isSome_iff s.slots n).mpr ⟨range.1, by omega⟩)
  rw [State.slot, hx]
  rfl

/-- Settles O27: the checks of both blocks, and what an accepted save and snapshot take. -/
theorem saveAndSnapshotAreCheckedAndTaken : Obligations.SaveAndSnapshotAreCheckedAndTaken := by
  refine fun via payload s t o taken => ⟨fun carried => ?malformed, fun empty saving => ?busy, fun empty idle => ?taken⟩
  case malformed =>
    have malformed := readNothing_of_ne_nil carried
    exact ⟨request_replied taken (by rw [State.saveBlock, malformed]; rfl),
      request_replied taken (by rw [State.snapshotResumeBlock, malformed]; rfl)⟩
  case busy =>
    subst empty
    exact ⟨request_replied taken (if_pos saving), request_replied taken (if_pos saving)⟩
  case taken =>
    subst empty
    refine ⟨⟨t.imageContents, request_replied taken ?_, rfl, rfl, fun k x hx => ?_, fun n hn => ?_⟩, request_replied taken ?_⟩
    · refine (if_neg (not_not.mpr idle)).trans ?_
      cases o <;> rfl
    · have hx' : at1 t.patterns k = some x := hx
      rw [State.imageContents, at1_mapBank, hx']
      rfl
    · rw [State.imageContents, at1_mapBank, at1_slots t hn, Option.map_some]
      unfold Slot.stored
      cases h : (t.slot n).status <;> rfl
    · exact if_neg (not_not.mpr idle)

/-- The store returns to IDLE, with a deferred entry to OFF (08 R170). -/
theorem storeIdle_eq (s : State) : s.storeIdle =
    match s.serviceMode with
    | .plain _ => { s with store := .idle }
    | .offPending _ => { s with
        store := .idle
        serviceMode := .plain .off
        spReply := if s.spReply = .preparing then .preparing else .none
        spReading := match s.spReply with | .ready _ => s.spReading.map fun _ => [] | _ => s.spReading } := by
  unfold State.storeIdle
  cases s.serviceMode with
  | plain => rfl
  | offPending =>
    dsimp only [State.enterMode]
    cases s.spReply <;> rfl

/-- Settles O28: the two ends of a save, each with the store's return to IDLE. -/
theorem aSaveEndsByCompletionOrFailure : Obligations.ASaveEndsByCompletionOrFailure := by
  intro s owner m saving
  refine ⟨congrArg done ?_, congrArg done ?_⟩
  · rw [State.saveCompletion, saving]
    dsimp only
    rw [storeIdle_eq]
    dsimp only
    cases s.serviceMode <;> rfl
  · rw [State.saveFailure, saving]
    dsimp only
    rw [storeIdle_eq]
    cases s.serviceMode <;> rfl

theorem ne_zero_iff_bit {w : Nat} (x : BitVec w) : x ≠ 0 ↔ ∃ i : Fin w, x.getLsbD i = true := by
  constructor
  · intro h
    by_contra clear
    push Not at clear
    refine h (BitVec.eq_of_getLsbD_eq fun i hi => ?_)
    simpa using clear ⟨i, hi⟩
  · rintro ⟨i, set⟩ rfl
    simp at set

/-- Settles O29: CLEAR_EVENTS clears what it names; ATN reads the flags through the mask. -/
theorem clearEventsClearsTheNamedFlags : Obligations.ClearEventsClearsTheNamedFlags := by
  refine ⟨fun s => ?_, fun via s t o taken => ⟨fun hi lo clear => ?_, fun payload malformed => ?_⟩⟩
  · rw [State.atnLow, bne_iff_ne, ne_zero_iff_bit]
    simp only [BitVec.getLsbD_and, Bool.and_eq_true]
  · refine request_replied taken ?_
    have operands : readEvents [hi, lo] = some (hi ++ lo) := by simp [readEvents, readEventSet, clear]
    rw [State.clearEventsBlock, operands]
    rfl
  · exact request_replied taken (by rw [State.clearEventsBlock, malformed]; rfl)

theorem spSaves_iff (s : State) : s.spSaves = true ↔ ∃ m, s.store = .saving .servicePort m := by
  unfold State.spSaves
  cases s.store with
  | idle => simp
  | saving owner m => cases owner <;> simp

/-- Settles O31: the mode is entered at once, or OFF is deferred to the end of the Service Port's save. -/
theorem serviceModeIsSetOrDeferred : Obligations.ServiceModeIsSetOrDeferred := by
  refine fun via s t o taken => ⟨fun payload malformed => ?_, fun payload mode operands =>
    ⟨fun other => ?_, fun off free => ?_, fun off owned => ?_⟩⟩
  · exact request_replied taken (by rw [State.setServiceModeBlock, malformed]; rfl)
  · refine request_replied taken ?_
    rw [State.setServiceModeBlock, operands, readThen_some, State.setServiceMode, if_neg (fun both => other both.1),
      State.enterMode, if_neg other, if_neg other]
    rfl
  · subst off
    have unowned : ¬t.spSaves = true := fun owned => (spSaves_iff t).mp owned |>.elim free
    refine request_replied taken ?_
    rw [State.setServiceModeBlock, operands, readThen_some, State.setServiceMode, if_neg (fun both => unowned both.2),
      State.enterMode, if_pos rfl, if_pos rfl]
    cases t.spReply <;> rfl
  · subst off
    refine ⟨{ t with serviceMode := .offPending t.serviceMode.behaves }, request_replied taken ?_, rfl, rfl, rfl⟩
    rw [State.setServiceModeBlock, operands, readThen_some, State.setServiceMode, if_pos ⟨rfl, (spSaves_iff t).mpr owned⟩]
    rfl

end Sys2Proof.Machine
end

section
/-! Resets, the Building Link, the Service Port and the start-up. -/

namespace Sys2Proof.Machine

/-! ## The reset that all causes share (10 R182) -/

theorem line_partReset (s : State) (cause : ResetCause) (l : Nat) :
    (s.partReset cause).line l = (s.line l).map fun x => Line.initial x.raw := at1_mapBank _ s.lines l

theorem running_partReset (s : State) (cause : ResetCause) : (s.partReset cause).running = false :=
  beq_eq_false_iff_ne.mpr (stage_partReset_ne_running s cause)

theorem afterReset_partReset (s : State) (cause : ResetCause) : AfterReset (s.partReset cause) cause where
  cause := rfl
  starting := running_partReset s cause
  noPlay := play_partReset s cause
  thawed := rfl
  noClaim := claimList_partReset s cause
  channels c x hx := by
    have read : (s.partReset cause).channel c = (s.channel c).map Channel.reset := at1_mapBank _ s.channels c
    rw [read] at hx
    obtain ⟨y, -, rfl⟩ := Option.map_eq_some_iff.mp hx
    exact ⟨rfl, rfl, rfl, rfl, rfl, rfl, rfl, rfl, rfl⟩
  thermal := ⟨rfl, rfl, rfl, rfl⟩
  lines l x hx := by
    rw [line_partReset] at hx
    obtain ⟨y, -, rfl⟩ := Option.map_eq_some_iff.mp hx
    exact ⟨rfl, rfl⟩
  patterns k x hx := by
    have read : (s.partReset cause).pattern k = (s.pattern k).map Pattern.clear := at1_mapBank _ s.patterns k
    rw [read] at hx
    obtain ⟨y, -, rfl⟩ := Option.map_eq_some_iff.mp hx
    exact ⟨rfl, rfl⟩
  link := ⟨rfl, rfl, rfl⟩
  ports := ⟨rfl, rfl, rfl, rfl, rfl, rfl⟩
  pins := rfl
  factory := ⟨rfl, rfl, rfl, rfl, rfl, rfl, rfl, rfl⟩
  store := rfl
  events := ⟨rfl, rfl, rfl⟩

theorem raw_partReset (s : State) (cause : ResetCause) (l : Nat) :
    ((s.partReset cause).line l).map (·.raw) = (s.line l).map (·.raw) := by
  rw [line_partReset, Option.map_map]
  rfl

theorem stage_partReset (s : State) (cause : ResetCause) :
    (s.partReset cause).stage = if s.rstnLow = true ∨ s.powered = false then .held else .loading := by
  show (if s.rstnLow || !s.powered then Stage.held else Stage.loading) = _
  cases s.rstnLow <;> cases s.powered <;> rfl

theorem resetFrom_partReset (s : State) (cause : ResetCause) : ResetFrom s (s.partReset cause) cause :=
  ⟨afterReset_partReset s cause, stage_partReset s cause, rfl, rfl, rfl, rfl, rfl, raw_partReset s cause⟩

/-- Settles O52: the state right after power-on is that of a reset, and it is small enough to be looked at. -/
theorem theKeptPropertiesHoldAtReset : Obligations.TheKeptPropertiesHoldAtReset := by
  have again : State.reset.partReset .power = State.reset := by decide +kernel
  have after : AfterReset State.reset .power := again ▸ afterReset_partReset State.reset .power
  refine ⟨after, ?channels, ?patterns, ?windows, ?lines, ?watchdog, ?retiring, ?fallback, ?claims, ?thermal, ?events, ?resume,
    ?held⟩
  all_goals decide +kernel

/-- Settles O47: each of the three causes is the shared reset, with the pins and the supply as they then stand. -/
theorem powerAndPinResetThePart : Obligations.PowerAndPinResetThePart := by
  intro s
  refine ⟨⟨_, rfl, afterReset_partReset { s with powered := true } .power, ?_, rfl, rfl, rfl,
      raw_partReset { s with powered := true } .power⟩,
    ⟨_, rfl, afterReset_partReset { s with powered := false } s.resetCause, ?_, rfl, rfl, rfl, rfl,
      raw_partReset { s with powered := false } s.resetCause⟩, fun high powered => ?_, fun low => congrArg done (if_pos low)⟩
  · rw [State.powerUp, stage_partReset]
    cases s.rstnLow <;> rfl
  · rw [State.powerDown, stage_partReset]
    exact if_pos (.inr rfl)
  · refine ⟨State.partReset { s with rstnLow := true } .pin, congrArg done ?_, afterReset_partReset _ .pin, ?_, rfl, rfl, rfl,
      rfl, raw_partReset { s with rstnLow := true } .pin⟩
    · rw [State.pinLow, high, powered]; rfl
    · rw [stage_partReset]
      exact if_pos (.inl rfl)

/-! ## The load (10 R183) -/

theorem settleMicros_eq (i : Items) : i.settleMicros = i.settleDelay * 100000 := by
  simp only [Items.settleMicros, inMicros, Config.msMicros]
  omega

/-- Settles O48: the end of the load, frame and fields. -/
theorem theLoadTakesTheImageOrTheFactoryImage : Obligations.TheLoadTakesTheImageOrTheFactoryImage := by
  intro s loading
  have image : (if s.checkGood then s.image else Image.factory) = s.imageToLoad := rfl
  rw [image]
  refine ⟨s.endLoad, congrArg done (if_pos loading), ?_⟩
  have flags := endLoad_flags s
  have valid := endLoad_imageValid s
  rw [endLoad_frame] at *
  refine ⟨rfl, rfl, rfl, fun k r hr => ?_, rfl, rfl, rfl, ?_, rfl, valid, flags, rfl, rfl, rfl, rfl, rfl, rfl, rfl⟩
  · show at1 (mapBank Pattern.idle s.imageToLoad.patterns) k = _
    rw [at1_mapBank, hr]
    rfl
  · exact congrArg Stage.settling (settleMicros_eq _)

/-! ## The Building Link -/

theorem lineHeard_iff (s : State) : s.lineHeard = true ↔ s.stage ≠ .held ∧ ∀ f d, s.linkReply ≠ .sending f d := by
  unfold State.lineHeard
  cases s.linkReply <;> simp

theorem lineHeard_idle {s : State} (live : s.stage ≠ .held) (idle : s.linkReply = .idle) : s.lineHeard = true :=
  (lineHeard_iff s).mpr ⟨live, fun f d => by rw [idle]; exact nofun⟩

theorem lineHeard_waiting {s : State} {r : Reply} {d : Deferred} (live : s.stage ≠ .held) (waiting : s.linkReply = .waiting r d) :
    s.lineHeard = true :=
  (lineHeard_iff s).mpr ⟨live, fun f d => by rw [waiting]; exact nofun⟩

theorem startBit_idle {s : State} (idle : s.linkReply = .idle) : s.startBit = s := by
  rw [State.startBit, idle]

theorem startBit_waiting {s : State} {r : Reply} {d : Deferred} (waiting : s.linkReply = .waiting r d) :
    s.startBit = s.releaseReply d := by
  rw [State.startBit, waiting]

theorem releaseReply_plain {d : Deferred} (plain : d.reset = false) (s : State) :
    s.releaseReply d = { s with linkReply := .idle, linkAddress := d.address.getD s.linkAddress } := by
  rw [State.releaseReply, plain]
  rfl

/-- A deferred reset takes everything that the reply's end writes with it. -/
theorem releaseReply_reset {d : Deferred} (reset : d.reset = true) (s : State) : s.releaseReply d = s.partReset .request := by
  rw [State.releaseReply, reset]
  rfl

theorem startBitReceiving_idle {s : State} (idle : s.linkReply = .idle) : s.startBitReceiving = s := by
  rw [State.startBitReceiving, idle]

theorem startBitReceiving_plain {s : State} {r : Reply} {d : Deferred} (waiting : s.linkReply = .waiting r d)
    (plain : d.reset = false) : s.startBitReceiving =
      { s with linkReply := .idle, linkAddress := d.address.getD s.linkAddress, receiver := .receiving } := by
  rw [State.startBitReceiving, waiting]
  dsimp only
  rw [plain, releaseReply_plain plain]
  rfl

theorem startBitReceiving_reset {s : State} {r : Reply} {d : Deferred} (waiting : s.linkReply = .waiting r d)
    (reset : d.reset = true) : s.startBitReceiving = s.partReset .request := by
  rw [State.startBitReceiving, waiting]
  dsimp only
  rw [reset, releaseReply_reset reset]
  rfl

/-- A heard frame is sorted in the state that its start bit leaves (08 R163). -/
theorem receiveFrame_heard {s : State} (heard : s.lineHeard = true) (address : Byte) : s.receiveFrame address =
    match State.sortFrame { s.startBit with receiver := .hunting } address with
    | none => ({ s.startBit with receiver := .hunting }, none)
    | some o => (State.startWatchdog { s.startBit with receiver := .hunting }, some o) := by
  rw [State.receiveFrame, heard]
  rfl

theorem sortFrame_unicast {s : State} {address : Byte} (own : address.toNat = s.linkAddress) :
    s.sortFrame address = some .unicast := if_pos own

theorem sortFrame_group {s : State} {address : Byte} (other : address.toNat ≠ s.linkAddress)
    (named : address = 0 ∨ address.toNat ∈ s.config.groups) : s.sortFrame address = some .group := by
  refine (if_neg other).trans (if_pos ?_)
  rw [List.contains_iff_mem]
  exact named.imp_left fun zero => by rw [zero]; rfl

theorem sortFrame_ignored {s : State} {address : Byte} (other : address.toNat ≠ s.linkAddress)
    (unnamed : ¬(address = 0 ∨ address.toNat ∈ s.config.groups)) : s.sortFrame address = none := by
  refine (if_neg other).trans (if_neg ?_)
  rw [List.contains_iff_mem]
  exact mt (Or.imp_left fun zero => BitVec.eq_of_toNat_eq zero) unnamed

/-- A frame that the unit does not answer to leaves the state of its start bit, however it is named (08 R163). -/
theorem frame_ignored {s t : State} {address : Byte} (heard : s.lineHeard = true)
    (start : { s.startBit with receiver := .hunting } = t) (ignored : t.sortFrame address = none) :
    s.receive (.link address) = (t, none) ∧ exec (.frameForAnotherUnit address) s = .next t := by
  constructor
  · refine (receiveFrame_heard heard address).trans ?_
    rw [start, ignored]
  · have meaning : exec (.frameForAnotherUnit address) s = done (s.otherFrame address) := congrArg done (if_pos heard)
    rw [meaning, State.otherFrame]
    dsimp only
    rw [start, ignored]
    rfl

theorem frame_taken {s t : State} {address : Byte} {o : Origin} (heard : s.lineHeard = true)
    (start : { s.startBit with receiver := .hunting } = t) (sorted : t.sortFrame address = some o) :
    s.receive (.link address) = (t.startWatchdog, some o) := by
  refine (receiveFrame_heard heard address).trans ?_
  rw [start, sorted]

theorem watchdogMicros_eq (i : Items) : i.watchdogMicros =
    i.watchdogPeriod.toNat * (if i.watchdogUnit = .second then 1000000 else 60000000) := by
  simp only [Items.watchdogMicros, inMicros, Config.msMicros]
  cases i.watchdogUnit with
  | second => exact Nat.mul_assoc ..
  | minute => exact Nat.mul_assoc ..

theorem watchdogRuns_iff (s : State) :
    s.watchdogRuns = true ↔ s.running = true ∧ s.fallbackOn = false ∧ s.config.watchdogPeriod ≠ 0 := by
  simp [State.watchdogRuns, and_assoc]

theorem startWatchdog_stopped {s : State} (stopped : s.running = false) : s.startWatchdog = s :=
  if_neg fun runs => nomatch stopped.symm.trans ((watchdogRuns_iff s).mp runs).1

/-- A frame addressed to the unit restarts the watchdog where it runs (07 R147, R148). -/
theorem startWatchdog_eq (s : State) : s.startWatchdog =
    if s.running = true ∧ s.fallbackOn = false ∧ s.config.watchdogPeriod ≠ 0 then
      { s with watchdog := some (s.config.watchdogPeriod.toNat *
        (if s.config.watchdogUnit = .second then 1000000 else 60000000)) }
    else s := by
  rw [State.startWatchdog, watchdogMicros_eq]
  exact if_congr (watchdogRuns_iff s) rfl rfl

/-- Settles O4: a frame is sorted in the state that its start bit leaves, which a waiting reset makes a part just reset. -/
theorem goodFramesAreSortedByTheirAddress : Obligations.GoodFramesAreSortedByTheirAddress := by
  intro s address live
  refine ⟨fun idle => ?_, fun r d waiting => ⟨fun plain => ?_, fun reset => ?_⟩⟩
  · have start : { s.startBit with receiver := .hunting } = { s with receiver := .hunting } := by rw [startBit_idle idle]
    have heard := lineHeard_idle live idle
    refine ⟨fun own => ?_, fun other named => ?_, fun other unnamed => ?_⟩
    · rw [frame_taken heard start (sortFrame_unicast own), startWatchdog_eq]; rfl
    · rw [frame_taken heard start (sortFrame_group other named), startWatchdog_eq]; rfl
    · exact frame_ignored heard start (sortFrame_ignored other unnamed)
  · have start : { s.startBit with receiver := .hunting } =
        { s with linkReply := .idle, linkAddress := d.address.getD s.linkAddress, receiver := .hunting } := by
      rw [startBit_waiting waiting, releaseReply_plain plain]
    have heard := lineHeard_waiting live waiting
    refine ⟨fun own => ?_, fun other named => ?_, fun other unnamed => ?_⟩
    · rw [frame_taken heard start (sortFrame_unicast own), startWatchdog_eq]; rfl
    · rw [frame_taken heard start (sortFrame_group other named), startWatchdog_eq]; rfl
    · exact frame_ignored heard start (sortFrame_ignored other unnamed)
  · have start : { s.startBit with receiver := .hunting } = s.partReset .request := by
      rw [startBit_waiting waiting, releaseReply_reset reset]
      rfl
    have heard := lineHeard_waiting live waiting
    have still := startWatchdog_stopped (running_partReset s .request)
    refine ⟨s.partReset .request, resetFrom_partReset s .request, fun own => ?_, fun all => ?_, fun other named => ?_⟩
    · rw [frame_taken heard start (sortFrame_unicast (by rw [own]; rfl)), still]
    · rw [frame_taken heard start (sortFrame_group (by rw [all]; exact nofun) (.inl all)), still]
    · refine frame_ignored heard start (sortFrame_ignored (fun own => other (BitVec.eq_of_toNat_eq own)) ?_)
      rintro (all | group)
      · exact named all
      · exact nomatch group

/-- Settles O32: what a RESET that is taken does, by the way it came. -/
theorem resetRequestsWaitForTheirReply : Obligations.ResetRequestsWaitForTheirReply := by
  refine fun via s t o taken => ⟨fun payload carried => ?_, fun unicast => ?_, fun group => ?_⟩
  · exact request_replied taken (by rw [State.resetBlock, readNothing_of_ne_nil carried]; rfl)
  · subst unicast
    exact congrArg done (request_taken s t .linkOnly via (State.resetBlock []) .unicast taken)
  · subst group
    exact ⟨t.partReset .request, congrArg done (request_taken s t .linkOnly via (State.resetBlock []) .group taken),
      resetFrom_partReset t .request⟩

theorem lineHeard_deaf {s : State} (deaf : s.stage = .held ∨ ∃ f d, s.linkReply = .sending f d) : s.lineHeard = false := by
  rw [← Bool.not_eq_true, lineHeard_iff]
  rintro ⟨live, free⟩
  rcases deaf with held | ⟨f, d, sending⟩
  · exact live held
  · exact free f d sending

/-- Settles O33: the five events of the receiver, in the state that the start bit leaves. -/
theorem theReceiverHuntsReceivesAndAbandons : Obligations.TheReceiverHuntsReceivesAndAbandons := by
  intro s
  have heard_exec (heard : s.lineHeard = true) : exec .linkSyncByte s = done s.syncByte ∧
      exec .linkGapExpiry s = done s.gapExpiry ∧ exec .linkByteError s = done s.byteError ∧
      exec .linkFrameCheckFailed s = done s.badCheck :=
    ⟨congrArg done (if_pos heard), congrArg done (if_pos heard), congrArg done (if_pos heard), congrArg done (if_pos heard)⟩
  refine ⟨fun live idle => ?idle, fun r d live waiting => ?waiting, fun deaf => ?deaf⟩
  case idle =>
    obtain ⟨sync, gap, error, check⟩ := heard_exec (lineHeard_idle live idle)
    rw [sync, gap, error, check, State.syncByte, State.gapExpiry, State.byteError, State.badCheck, startBit_idle idle,
      startBitReceiving_idle idle]
    refine ⟨rfl, rfl, fun receiving => ?_, fun hunting => ?_⟩
    · rw [if_pos receiving]
      exact ⟨rfl, rfl⟩
    · have quiet : s.receiver ≠ .receiving := by rw [hunting]; exact nofun
      rw [if_neg quiet]
      exact ⟨rfl, rfl⟩
  case waiting =>
    obtain ⟨sync, gap, error, check⟩ := heard_exec (lineHeard_waiting live waiting)
    rw [sync, gap, error, check, State.syncByte, State.gapExpiry, State.byteError, State.badCheck, startBit_waiting waiting]
    refine ⟨fun hunting => ?_, fun plain => ?_, fun reset => ⟨s.partReset .request, resetFrom_partReset s .request, ?_⟩⟩
    · exact congrArg done (if_neg (by rw [hunting]; exact nofun))
    · rw [releaseReply_plain plain, startBitReceiving_plain waiting plain]
      exact ⟨rfl, rfl, rfl⟩
    · rw [releaseReply_reset reset, startBitReceiving_reset waiting reset]
      have flag : (0 : EventSet) ||| EventFlag.linkError.set = 0x2000 := by decide
      refine ⟨rfl, rfl, congrArg done ?_⟩
      show { s.partReset .request with receiver := .hunting, flags := 0 ||| EventFlag.linkError.set } = _
      rw [flag]
      rfl
  case deaf =>
    have unheard (t : State) : (if s.lineHeard then t else s) = s :=
      if_neg (by rw [lineHeard_deaf deaf]; exact nofun)
    refine ⟨congrArg done (unheard _), congrArg done (unheard _), congrArg done (unheard _), congrArg done (unheard _),
      fun address => ⟨congrArg done (unheard _), ?_⟩⟩
    show s.receiveFrame address = (s, none)
    rw [State.receiveFrame, lineHeard_deaf deaf]
    rfl

/-- Settles O34: the reply leaves as a frame, and its end or its drop takes what waited for it. -/
theorem repliesAreSentOrDroppedWithTheirEffects : Obligations.RepliesAreSentOrDroppedWithTheirEffects := by
  intro s r d frame
  refine ⟨fun waiting => ⟨?start, fun plain => ?dropped, fun reset => ?resetDropped⟩,
    fun sending => ⟨fun plain => ?sent, fun reset => ?resetSent⟩, ?crc⟩
  case start =>
    refine congrArg done ?_
    rw [State.startReply, waiting]
    rfl
  case dropped => exact congrArg done (startBitReceiving_plain waiting plain)
  case resetDropped =>
    exact ⟨_, congrArg done (startBitReceiving_reset waiting reset), resetFrom_partReset s .request⟩
  case sent =>
    refine congrArg done ?_
    rw [State.finishReply, sending]
    exact releaseReply_plain plain _
  case resetSent =>
    refine ⟨_, congrArg done ?_, resetFrom_partReset s .request⟩
    rw [State.finishReply, sending]
    exact releaseReply_reset reset _
  case crc => decide +kernel

/-! ## The Service Port -/

theorem spListens_iff (s : State) : s.spListens = true ↔
    s.stage ≠ .held ∧ (s.serviceMode.behaves = .openMode ∨ s.serviceMode.behaves = .readOnly) := by
  simp [State.spListens]

theorem acknowledges_iff (s : State) (target : BitVec 7) :
    s.acknowledges target = true ↔ s.spListens = true ∧ target = s.spAddress := by
  simp [State.acknowledges]

/-- What a malformed and an aborted write make of the end of a write (08 R167, R168). -/
theorem badWrite_taken {s t : State} (h : s.endWrite = (t, some .servicePort)) :
    s.badWrite = { t with spReply := .ready ⟨.badFrame, []⟩ } ∧ s.abortWrite = { t with spReply := .none } := by
  rw [State.badWrite, State.abortWrite, h]
  exact ⟨rfl, rfl⟩

theorem badWrite_not_taken {s t : State} (h : s.endWrite = (t, none)) : s.badWrite = t ∧ s.abortWrite = t := by
  rw [State.badWrite, State.abortWrite, h]
  exact ⟨rfl, rfl⟩

/-- The three commands that end a write, where it is taken. -/
theorem write_taken {s t : State} (h : s.endWrite = (t, some .servicePort)) :
    s.receive .servicePort = (t, some .servicePort) ∧
      exec .spBadFrame s = .next { t with spReply := .ready ⟨.badFrame, []⟩ } ∧
      exec .spWriteAborted s = .next { t with spReply := .none } :=
  ⟨h, congrArg done (badWrite_taken h).1, congrArg done (badWrite_taken h).2⟩

theorem write_not_taken {s t : State} (h : s.endWrite = (t, none)) :
    s.receive .servicePort = (t, none) ∧ exec .spBadFrame s = .next t ∧ exec .spWriteAborted s = .next t :=
  ⟨h, congrArg done (badWrite_not_taken h).1, congrArg done (badWrite_not_taken h).2⟩

theorem pendingBytes_eq : pendingBytes = [0xFF, 0x00, 0xD7] := by decide +kernel

/-- Settles O35: the transactions of the Service Port, by whether the port listens and what is under way. -/
theorem servicePortTransactions : Obligations.ServicePortTransactions := by
  intro s target count ends listens begun reply supplied
  have listens_iff : s.spListens = true ↔ listens := spListens_iff s
  have deaf (h : ¬listens) : s.spListens = false := Bool.eq_false_iff.mpr (mt listens_iff.mp h)
  have bytes : begun.spReply.bytes = reply := by
    show SpReply.bytes begun.spReply = match begun.spReply with
      | .ready r => r.status.code :: byte r.payload.length :: r.payload ++
          [crc8 (r.status.code :: byte r.payload.length :: r.payload)]
      | .none => [0xFF, 0x00, 0xD7]
      | .preparing => [0xFF, 0x00, 0xD7]
    cases begun.spReply with
    | ready => rfl
    | none | preparing => exact pendingBytes_eq
  refine ⟨fun heard own => ?_, fun unheard => ?_, fun left reading => ?_, fun idle => ?_, fun acknowledged heard => ?_,
    fun acknowledged unheard => ?_, fun refused => ?_, fun none heard => ?_, fun none unheard => ?_⟩
  · have known := (acknowledges_iff s target).mpr ⟨listens_iff.mpr heard, own⟩
    refine ⟨congrArg done (if_pos known), congrArg done ((if_pos known).trans ?_)⟩
    show State.supply { begun with spAck := true } begun.spReply.bytes ⟨count, ends⟩ = _
    rw [bytes]
    rfl
  · have unknown : ¬s.acknowledges target = true := fun known =>
      unheard ((and_congr_left' listens_iff).mp ((acknowledges_iff s target).mp known))
    exact ⟨congrArg done (if_neg unknown), congrArg done (if_neg unknown)⟩
  · refine congrArg done ?_
    rw [State.readReply, reading]
    rfl
  · refine congrArg done ?_
    rw [State.readReply, idle]
  · exact write_taken (endWrite_acknowledged s acknowledged (listens_iff.mpr heard))
  · exact write_not_taken (endWrite_deaf s acknowledged (deaf unheard))
  · exact write_not_taken (endWrite_refused s refused)
  · exact write_taken (t := { s with spAck := true, spReply := .preparing, spReading := .none })
      (by rw [endWrite_whole s none (listens_iff.mpr heard), none])
  · exact write_not_taken (t := { s with spAck := false, spReading := .none })
      (by rw [endWrite_whole_deaf s none (deaf unheard), none])

end Sys2Proof.Machine
end

section
/-! What the channel events and the temperature do (chapter 05), and the levels (chapter 03). -/

namespace Sys2Proof.Machine

/-! ## The recomputation of a channel that is kept as it should be -/

/-- Whether a condition is sensed at the channel's level (05 R103, R108). -/
def Channel.senses (x : Channel) : FaultCondition → Bool
  | .overcurrent | .short => 1 ≤ x.level
  | .openLoad => 64 ≤ x.level && !x.openLoadFlag

theorem persistence_measure (x : Sense) (sensed : Bool) : (x.measure sensed).persistence =
    if x.reported = true ∧ sensed = true then some (x.persistence.getD 0) else none := by
  simp [Sense.measure]

/-- A persistence that runs exactly while it should is left by the recomputation. -/
theorem measure_same {x : Sense} {sensed : Bool} (h : x.persistence.isSome = true ↔ x.reported = true ∧ sensed = true) :
    x.measure sensed = x := by
  obtain ⟨reported, persistence⟩ := x
  unfold Sense.measure
  congr 1
  cases persistence with
  | none =>
    have off : ¬(reported = true ∧ sensed = true) := fun on => nomatch h.mpr on
    simpa using off
  | some long =>
    obtain ⟨rep, sen⟩ := h.mp rfl
    subst rep sen
    rfl

theorem Channel.Kept.senses {x : Channel} (h : x.Kept) (cond : FaultCondition) :
    (x.sense cond).persistence.isSome = true ↔ (x.sense cond).reported = true ∧ x.senses cond = true := by
  obtain ⟨-, -, -, current, short, unloaded, -, -⟩ := h
  cases cond with
  | overcurrent => exact current.trans (by rw [Channel.senses, decide_eq_true_iff]; exact Iff.rfl)
  | short => exact short.trans (by rw [Channel.senses, decide_eq_true_iff]; exact Iff.rfl)
  | openLoad =>
    exact unloaded.trans (by rw [Channel.senses, Bool.and_eq_true, decide_eq_true_iff, Bool.not_eq_true']; exact Iff.rfl)

theorem Channel.Kept.goodRun_of_dark {x : Channel} (h : x.Kept) (dark : x.level = 0) : x.goodRun = none := by
  obtain ⟨-, running, -⟩ := h
  exact Option.not_isSome_iff_eq_none.mp fun runs => (running runs).2 dark

/-- At the level that it drives, the recomputation measures the three conditions and no more. -/
theorem drive_at_level {x : Channel} (h : x.level = 0 → x.goodRun = none) (time : Byte) : x.drive x.level time =
    { x with
      overcurrent := x.overcurrent.measure (x.senses .overcurrent)
      short := x.short.measure (x.senses .short)
      openLoad := x.openLoad.measure (x.senses .openLoad) } := by
  unfold Channel.drive
  by_cases dark : x.level = 0
  · rw [if_pos dark, h dark]; rfl
  · rw [if_neg dark, if_neg dark]; rfl

theorem Channel.Kept.overcurrent_same {x : Channel} (h : x.Kept) : x.overcurrent.measure (x.senses .overcurrent) = x.overcurrent :=
  measure_same (h.senses .overcurrent)

theorem Channel.Kept.short_same {x : Channel} (h : x.Kept) : x.short.measure (x.senses .short) = x.short :=
  measure_same (h.senses .short)

theorem Channel.Kept.openLoad_same {x : Channel} (h : x.Kept) : x.openLoad.measure (x.senses .openLoad) = x.openLoad :=
  measure_same (h.senses .openLoad)

theorem Channel.Kept.drive_same {x : Channel} (h : x.Kept) (time : Byte) : x.drive x.level time = x := by
  rw [drive_at_level h.goodRun_of_dark, h.overcurrent_same, h.short_same, h.openLoad_same]

theorem channel_setChannel {s : State} {c : Nat} {x : Channel} (hx : s.channel c = some x) (y : Channel) (d : Nat) :
    (s.setChannel c y).channel d = if d = c then some y else s.channel d := by
  have range : 1 ≤ c ∧ c ≤ 16 := (at1_isSome_iff s.channels c).mp (by rw [show at1 s.channels c = some x from hx]; rfl)
  refine (at1_put1 s.channels c d y).trans ?_
  by_cases here : d = c
  · rw [if_pos ⟨here, range⟩, if_pos here]
  · rw [if_neg fun both => here both.1, if_neg here]; rfl

theorem mem_channelIds_of_channel {s : State} {c : Nat} {x : Channel} (hx : s.channel c = some x) : c ∈ channelIds := by
  rw [mem_channelIds, ← at1_isSome_iff s.channels c, show at1 s.channels c = some x from hx]
  rfl

/-- A channel record that is kept and drives its owner's level is left by the recomputation. -/
theorem drive_kept_channel {s t : State} (levels : LevelsFollowTheOwners s) (kept : ∀ x ∈ s.channels.toList, x.Kept)
    {d : Nat} (same : t.channel d = s.channel d) (output : ∀ st, t.outputLevel d st = s.outputLevel d st) :
    t.drive.channel d = s.channel d := by
  rw [channel_drive, same]
  cases hx : s.channel d with
  | none => rfl
  | some x =>
    have level := levels d (mem_channelIds_of_channel hx) x hx
    rw [Option.map_some, output, ← level, (kept x (mem_of_at1 hx)).drive_same]

/-- Where one channel record is written, the recomputation leaves the other channels. -/
theorem drive_setChannel_other {s t : State} (levels : LevelsFollowTheOwners s) (kept : ∀ x ∈ s.channels.toList, x.Kept)
    {c : Nat} {x y : Channel} (hx : s.channel c = some x) (output : ∀ d st, t.outputLevel d st = s.outputLevel d st)
    (channels : t.channels = (s.setChannel c y).channels) {d : Nat} (other : d ≠ c) :
    t.drive.channel d = s.channel d := by
  refine drive_kept_channel levels kept ?_ (output d)
  rw [State.channel, channels]
  exact (channel_setChannel hx y d).trans (if_neg other)

theorem drive_setChannel_same {s t : State} {c : Nat} {x y : Channel} (hx : s.channel c = some x)
    (output : ∀ d st, t.outputLevel d st = s.outputLevel d st) (channels : t.channels = (s.setChannel c y).channels)
    (config : t.config = s.config) :
    t.drive.channel c = some (y.drive (s.outputLevel c y.state) s.config.goodRunTime) := by
  have here : t.channel c = some y := by
    rw [State.channel, channels]
    exact (channel_setChannel hx y c).trans (if_pos rfl)
  rw [channel_drive, here, Option.map_some, output, config]

/-! ## Conditions (05 R103, R104) -/

@[simp] theorem sense_setSense (x : Channel) (cond : FaultCondition) (y : Sense) : (x.setSense cond y).sense cond = y := by
  cases cond <;> rfl

/-- A condition's record that is written is measured; the other two are kept. -/
theorem Channel.Kept.drive_setSense {x : Channel} (h : x.Kept) (cond : FaultCondition) (y : Sense) (time : Byte) :
    (x.setSense cond y).drive x.level time = x.setSense cond (y.measure (x.senses cond)) := by
  have level : (x.setSense cond y).level = x.level := by cases cond <;> rfl
  have dark : (x.setSense cond y).level = 0 → (x.setSense cond y).goodRun = none := by
    cases cond <;> exact h.goodRun_of_dark
  rw [← level, drive_at_level dark]
  cases cond with
  | overcurrent =>
    show ({ x with
      overcurrent := y.measure (x.senses .overcurrent), short := x.short.measure (x.senses .short),
      openLoad := x.openLoad.measure (x.senses .openLoad) } : Channel) = _
    rw [h.short_same, h.openLoad_same]
    rfl
  | short =>
    show ({ x with
      overcurrent := x.overcurrent.measure (x.senses .overcurrent), short := y.measure (x.senses .short),
      openLoad := x.openLoad.measure (x.senses .openLoad) } : Channel) = _
    rw [h.overcurrent_same, h.openLoad_same]
    rfl
  | openLoad =>
    show ({ x with
      overcurrent := x.overcurrent.measure (x.senses .overcurrent), short := x.short.measure (x.senses .short),
      openLoad := y.measure (x.senses .openLoad) } : Channel) = _
    rw [h.overcurrent_same, h.short_same]
    rfl

theorem onChannel_some {s : State} {c : Nat} {x : Channel} (hx : s.channel c = some x) (act : Channel → State) :
    s.onChannel c act = act x := by
  rw [State.onChannel, hx]

theorem senses_iff (x : Channel) (cond : FaultCondition) : x.senses cond = true ↔
    (if cond = .openLoad then 64 else 1) ≤ x.level ∧ (cond = .openLoad → x.openLoadFlag = false) := by
  cases cond <;> simp [Channel.senses]

/-- Settles O41: the condition's record is written and measured, and every other record is kept. -/
theorem conditionsAreMeasuredWhileTheyAreSensed : Obligations.ConditionsAreMeasuredWhileTheyAreSensed := by
  rintro s c cond present x ⟨levels, kept, -⟩ hx low
  have hkept := kept x (mem_of_at1 hx)
  have level := levels c (mem_channelIds_of_channel hx) x hx
  have output (d : Nat) (st : SupervisorState) :
      (s.setChannel c (x.setSense cond { x.sense cond with reported := present })).outputLevel d st = s.outputLevel d st :=
    outputLevel_congr _ _ rfl rfl rfl rfl rfl rfl d st
  have state : (x.setSense cond { x.sense cond with reported := present }).state = x.state := by cases cond <;> rfl
  refine ⟨_, x.setSense cond ({ x.sense cond with reported := present }.measure (x.senses cond)),
    congrArg done (onChannel_some hx _), rfl, fun d other => drive_setChannel_other levels kept hx output rfl other,
    ?_, ?_, ?_, fun gone => ?_, fun _ below => ?_, fun now above unflagged => ?_⟩
  · rw [drive_setChannel_same hx output rfl rfl, state, ← level, hkept.drive_setSense]
  · rw [sense_setSense]
  · rw [sense_setSense]; rfl
  · rw [sense_setSense, persistence_measure, gone]
    exact if_neg fun both => nomatch both.1
  · rw [sense_setSense, persistence_measure]
    exact if_neg fun both => absurd ((senses_iff x cond).mp both.2).1 (Nat.not_le.mpr below)
  · have sensed := (senses_iff x cond).mpr ⟨above, unflagged⟩
    rw [sense_setSense, persistence_measure, now, sensed, if_pos ⟨rfl, rfl⟩]
    split
    · next before =>
      obtain ⟨long, hlong⟩ := Option.isSome_iff_exists.mp ((hkept.senses cond).mpr ⟨before, sensed⟩)
      simp [hlong]
    · next before =>
      have stopped : (x.sense cond).persistence = none :=
        Option.not_isSome_iff_eq_none.mp fun runs => before ((hkept.senses cond).mp runs).1
      simp [stopped]

/-! ## Detections, retries and good runs (05 R104 to R118) -/

theorem detects_iff (x : Channel) (i : Items) (cond : FaultCondition) : x.detects i cond = true ↔
    x.state = .normal ∧ ∃ long, (x.sense cond).persistence = some long ∧ i.deglitch.us ≤ long := by
  simp [Channel.detects, Option.any_eq_true]

theorem retryMicros_eq (i : Items) : i.retryMicros = i.retryDelay.toNat * 10000 := by
  simp only [Items.retryMicros, inMicros, Config.msMicros]
  omega

/-- A channel that trips is dark, and the recomputation leaves it (05 R106). -/
theorem drive_tripped (x : Channel) (i : Items) (time : Byte) : (x.tripped i).drive 0 time =
    { x with
      state := if i.maxRetries < x.retryCount + 1 then .locked else .tripped
      retryCount := x.retryCount + 1
      retryTimer := if i.maxRetries < x.retryCount + 1 then none else some (i.retryDelay.toNat * 10000)
      goodRun := none
      level := 0
      overcurrent := { x.overcurrent with persistence := none }
      short := { x.short with persistence := none }
      openLoad := { x.openLoad with persistence := none } } := by
  rw [← retryMicros_eq]
  simp [Channel.drive, Channel.tripped, Channel.discardAll, Sense.measure, Sense.discard]

theorem state_tripped_ne (x : Channel) (i : Items) : (x.tripped i).state ≠ .normal := by
  show (if i.maxRetries < x.retryCount + 1 then SupervisorState.locked else .tripped) ≠ .normal
  split <;> exact nofun

theorem set_tripEvent (x : Channel) (i : Items) :
    (x.tripEvent i).set = if i.maxRetries < x.retryCount + 1 then 0x0020 else 0x0010 := by
  unfold Channel.tripEvent
  split <;> rfl

/-- A flag that is set ends the measurement of OPEN_LOAD, and no other (05 R108). -/
theorem Channel.Kept.drive_flagged {x : Channel} (h : x.Kept) (time : Byte) :
    ({ x with openLoadFlag := true } : Channel).drive x.level time =
      { x with openLoadFlag := true, openLoad := { x.openLoad with persistence := none } } := by
  refine (drive_at_level (x := { x with openLoadFlag := true }) h.goodRun_of_dark time).trans ?_
  have unloaded : x.openLoad.measure (decide (64 ≤ x.level) && !true) = { x.openLoad with persistence := none } := by
    simp [Sense.measure]
  show ({ x with
    openLoadFlag := true, overcurrent := x.overcurrent.measure (x.senses .overcurrent),
    short := x.short.measure (x.senses .short), openLoad := x.openLoad.measure (decide (64 ≤ x.level) && !true) } : Channel) = _
  rw [unloaded, h.overcurrent_same, h.short_same]

/-- Settles O42: a detection needs the deglitch time; a trip and a flag write one channel record. -/
theorem detectionsTripTheChannelOrSetItsFlag : Obligations.DetectionsTripTheChannelOrSetItsFlag := by
  rintro s c cond x ⟨levels, kept, -⟩ hx time
  have deglitch : s.config.deglitch.us = time := by
    show _ = match s.config.deglitch with | .us50 => 50 | .us100 => 100 | .us200 => 200 | .us400 => 400
    cases s.config.deglitch <;> rfl
  have hkept := kept x (mem_of_at1 hx)
  have level := levels c (mem_channelIds_of_channel hx) x hx
  refine ⟨fun short measured early => ?early, fun long measured late normal => ⟨fun trips => ?trips, fun unloads => ?unloads⟩⟩
  case early =>
    have undetected : ¬x.detects s.config cond = true := fun detected => by
      obtain ⟨-, long, hlong, due⟩ := (detects_iff x s.config cond).mp detected
      obtain rfl := Option.some.inj (measured.symm.trans hlong)
      exact absurd (deglitch ▸ due) (Nat.not_le.mpr early)
    refine ⟨fun _ => congrArg done ?_, fun unloads => congrArg done ?_⟩
    · exact (onChannel_some hx _).trans (if_neg fun both => undetected both.2)
    · subst unloads
      exact (onChannel_some hx _).trans (if_neg undetected)
  case trips =>
    have detected := (detects_iff x s.config cond).mpr ⟨normal, long, measured, deglitch ▸ late⟩
    have output (d : Nat) (st : SupervisorState) :
        ((s.setChannel c (x.tripped s.config)).raise (x.tripEvent s.config)).outputLevel d st = s.outputLevel d st :=
      outputLevel_congr _ _ rfl rfl rfl rfl rfl rfl d st
    refine ⟨_, congrArg done ((onChannel_some hx _).trans (if_pos ⟨trips, detected⟩)), rfl,
      fun d other => drive_setChannel_other levels kept hx output rfl other, ?_, ?_⟩
    · rw [drive_setChannel_same hx output rfl rfl, outputLevel_of_not_normal (state_tripped_ne x s.config), drive_tripped]
    · exact congrArg (s.flags ||| ·) (set_tripEvent x s.config)
  case unloads =>
    subst unloads
    have detected := (detects_iff x s.config .openLoad).mpr ⟨normal, long, measured, deglitch ▸ late⟩
    have output (d : Nat) (st : SupervisorState) :
        ((s.setChannel c { x with openLoadFlag := true }).raise .openLoad).outputLevel d st = s.outputLevel d st :=
      outputLevel_congr _ _ rfl rfl rfl rfl rfl rfl d st
    refine ⟨_, congrArg done ((onChannel_some hx _).trans (if_pos detected)), rfl,
      fun d other => drive_setChannel_other levels kept hx output rfl other, ?_, rfl⟩
    rw [drive_setChannel_same hx output rfl rfl, ← level, hkept.drive_flagged]

end Sys2Proof.Machine
end

section
/-! Retries, good runs, cleared faults, the temperature, the input lines and the changes that a SET_CONFIG makes. -/

namespace Sys2Proof.Machine

/-! ## A channel that drives from 0, measured afresh -/

/-- A condition that was not measured is measured from 0 (05 R104). -/
theorem measure_afresh {x : Sense} (stopped : x.persistence = none) {sensed : Bool} {now : Prop} [Decidable now]
    (h : sensed = true ↔ now) : x.measure sensed = ⟨x.reported, if x.reported = true ∧ now then some 0 else none⟩ := by
  simp [Sense.measure, stopped, h]

theorem sensed_openLoad_iff (level : Nat) (flag : Bool) : (decide (64 ≤ level) && !flag) = true ↔ 64 ≤ level ∧ flag = false := by
  rw [Bool.and_eq_true, decide_eq_true_iff, Bool.not_eq_true']

/-- The good-run timer of a channel that was dark runs from 0 (05 R113). -/
theorem goodRun_drive_of_dark {x : Channel} (dark : x.level = 0) (level : Nat) (time : Byte) :
    (x.drive level time).goodRun = if level = 0 ∨ time = 0 then none else some 0 := by
  unfold Channel.drive goodRunStart
  by_cases off : level = 0
  · simp [off]
  · by_cases never : time = 0 <;> simp [off, never, dark]

theorem sensed_drive (x : Channel) (level : Nat) (time : Byte) :
    (x.drive level time).overcurrent = x.overcurrent.measure (1 ≤ level) ∧
      (x.drive level time).short = x.short.measure (1 ≤ level) ∧
      (x.drive level time).openLoad = x.openLoad.measure (64 ≤ level && !x.openLoadFlag) := ⟨rfl, rfl, rfl⟩

/-- In TRIPPED and LOCKED nothing is measured (05 section 5.3). -/
theorem Channel.Kept.unmeasured {x : Channel} (h : x.Kept) (dark : x.level = 0) (cond : FaultCondition) :
    (x.sense cond).persistence = none := by
  refine Option.not_isSome_iff_eq_none.mp fun runs => ?_
  have sensed := ((senses_iff x cond).mp ((h.senses cond).mp runs).2).1
  rw [dark] at sensed
  cases cond <;> exact absurd sensed (by decide)

/-! ## Retries and good runs (05 R109, R114) -/

/-- Settles O43: the two expiries, each only where its timer has run out. -/
theorem retryAndGoodRunExpire : Obligations.RetryAndGoodRunExpire := by
  rintro s c x ⟨levels, kept, -⟩ hx
  have hkept := kept x (mem_of_at1 hx)
  refine ⟨fun stopped => congrArg done ?_, fun early => congrArg done ?_, fun tripped out => ?retry, fun run running late => ?good⟩
  · exact (onChannel_some hx _).trans (if_neg fun due => stopped ((retryDue_iff x).mp due).2)
  · refine (onChannel_some hx _).trans (if_neg fun due => ?_)
    obtain ⟨run, running, late⟩ := (goodRunDue_iff x s.config).mp due
    exact absurd late (Nat.not_le.mpr (early run running))
  case retry =>
    have dark : x.level = 0 := hkept.2.2.1 (by rw [tripped]; exact nofun)
    have output (d : Nat) (st : SupervisorState) : (s.setChannel c x.retried).outputLevel d st = s.outputLevel d st :=
      outputLevel_congr _ _ rfl rfl rfl rfl rfl rfl d st
    have current : x.retried.overcurrent.persistence = none := hkept.unmeasured dark .overcurrent
    have short : x.retried.short.persistence = none := hkept.unmeasured dark .short
    have unloaded : x.retried.openLoad.persistence = none := hkept.unmeasured dark .openLoad
    refine ⟨_, x.retried.drive (s.outputLevel c .normal) s.config.goodRunTime,
      congrArg done ((onChannel_some hx _).trans (if_pos ((retryDue_iff x).mpr ⟨tripped, out⟩))), rfl,
      fun d other => drive_setChannel_other levels kept hx output rfl other,
      drive_setChannel_same hx output rfl rfl, rfl, rfl, rfl, rfl, rfl, goodRun_drive_of_dark (x := x.retried) dark _ _, ?_, ?_, ?_⟩
    · rw [(sensed_drive _ _ _).1, measure_afresh current decide_eq_true_iff]; rfl
    · rw [(sensed_drive _ _ _).2.1, measure_afresh short decide_eq_true_iff]; rfl
    · rw [(sensed_drive _ _ _).2.2, measure_afresh unloaded (sensed_openLoad_iff _ _)]; rfl
  case good =>
    refine ⟨_, congrArg done ((onChannel_some hx _).trans (if_pos ((goodRunDue_iff x s.config).mpr ⟨run, running, late⟩))), rfl,
      fun d other => (channel_setChannel hx _ d).trans (if_neg other), (channel_setChannel hx _ c).trans (if_pos rfl)⟩

/-! ## CLEAR_FAULT (05 R116, R117) -/

theorem readChannels_eq (payload : List Byte) : readChannels payload =
    if 1 ≤ (payload.map BitVec.toNat).length ∧ (payload.map BitVec.toNat).length ≤ 16 ∧
        (∀ c ∈ payload.map BitVec.toNat, 1 ≤ c ∧ c ≤ 16) ∧ (payload.map BitVec.toNat).Nodup then
      some (payload.map BitVec.toNat)
    else none := by
  have range (cs : List Nat) : cs.all channelWf = true ↔ ∀ c ∈ cs, 1 ≤ c ∧ c ≤ 16 := by
    rw [List.all_eq_true]
    exact forall₂_congr fun c _ => by rw [channelWf, Bool.and_eq_true, decide_eq_true_iff, decide_eq_true_iff]; rfl
  unfold readChannels
  simp only [range]

/-- Settles O24: a named channel is cleared and drives from 0; every other one is kept. -/
theorem clearFaultReturnsTheNamedChannelsToNormal : Obligations.ClearFaultReturnsTheNamedChannelsToNormal := by
  intro via payload s t o taken named valid
  refine ⟨fun malformed => request_replied taken ?_, fun hvalid levels kept => ?_⟩
  · rw [State.clearFaultBlock, readChannels_eq, if_neg malformed]
    rfl
  · have output (d : Nat) (st : SupervisorState) : (t.clearFaults named).outputLevel d st = t.outputLevel d st :=
      outputLevel_congr _ _ rfl rfl rfl rfl rfl rfl d st
    refine ⟨t.clearFaults named, request_replied taken ?_, rfl, fun c x hx => ?_⟩
    · rw [State.clearFaultBlock, readChannels_eq, if_pos hvalid]
      rfl
    · have before : State.channel { t with
          channels := mapBank1 (fun c x => if named.contains c then x.cleared else x) t.channels } c =
          some (if named.contains c then x.cleared else x) := by
        refine (at1_mapBank1 _ t.channels c).trans ?_
        rw [show at1 t.channels c = some x from hx]
        rfl
      have level : (t.clearFaults named).channel c = some ((if named.contains c then x.cleared else x).drive
          (t.outputLevel c (if named.contains c then x.cleared else x).state) t.config.goodRunTime) := by
        rw [State.clearFaults, channel_drive, before]
        rfl
      refine ⟨_, level, (output c _).symm, fun unnamed => ?_, fun here => ?_⟩
      · rw [if_neg (by rw [List.contains_iff_mem]; exact unnamed), ← levels c (mem_channelIds_of_channel hx) x hx,
          (kept x (mem_of_at1 hx)).drive_same]
      · rw [if_pos (List.contains_iff_mem.mpr here)]
        refine ⟨rfl, rfl, rfl, rfl, goodRun_drive_of_dark (x := x.cleared) rfl _ _, ?_, ?_, ?_⟩
        · rw [(sensed_drive _ _ _).1, measure_afresh rfl decide_eq_true_iff]; rfl
        · rw [(sensed_drive _ _ _).2.1, measure_afresh rfl decide_eq_true_iff]; rfl
        · exact (measure_afresh (x := x.cleared.openLoad) rfl ((sensed_openLoad_iff _ false).trans (and_iff_left rfl))).trans rfl

/-! ## SET_CONFIG (09 R175) -/

theorem thresholdsOk_iff (i : Items) : i.thresholdsOk = true ↔ i.warn + 10 ≤ i.shutdown := by
  simp [Items.thresholdsOk]

/-- An accepted SET_CONFIG is answered OK, with the address that waits for a unicast reply (08 R161). -/
theorem setConfig_taken {via : Via} {payload : List Byte} {s t : State} {o : Origin} {es : List ConfigEntry}
    (taken : Taken s .other via t o) (idle : t.store = .idle) (operands : readSetConfig t.config payload = some es) :
    exec (.setConfig via payload) s = .next (Answer.send
      { state := t.applyConfig es o, reply := ⟨.ok, []⟩, deferred := (t.applyConfig es o).deferredAddress es o } o) := by
  refine (congrArg done (request_taken s t .other via (State.setConfigBlock payload) o taken)).trans ?_
  rw [State.setConfigBlock, editThen_idle _ _ t idle, operands]
  rfl

theorem line_applyConfig {s : State} {l : Nat} {x : Line} (hx : s.line l = some x) (es : List ConfigEntry) (o : Origin) :
    (s.applyConfig es o).line l =
      some (if touchesLine es l then x.rebase ((s.applyConfig es o).lineItems l).enabled else x) := by
  have frame := configuredItems_frame s es o
  have items : (s.applyConfig es o).lineItems l = (s.configuredItems es o).lineItems l := by
    rw [applyConfig_frame, frame]
    rfl
  rw [items, applyConfig_frame]
  refine (at1_mapBank1 _ (s.configuredItems es o).lines l).trans ?_
  have read : at1 (s.configuredItems es o).lines l = some x := by
    rw [frame]
    exact hx
  rw [read]
  rfl

theorem touchesLine_iff (es : List ConfigEntry) (l : Nat) : touchesLine es l = true ↔
    0x3F + l ∈ es.map ConfigEntry.code ∨ 0x47 + l ∈ es.map ConfigEntry.code ∨ 0x4F + l ∈ es.map ConfigEntry.code := by
  simp only [touchesLine, Bool.or_eq_true, touches_iff, or_assoc]

theorem config_applyConfig (s : State) (es : List ConfigEntry) (o : Origin) :
    (s.applyConfig es o).config = s.config.applyAll es := by rw [applyConfig_frame]

/-- Settles O25: the checks of the block, and each live effect of an accepted SET_CONFIG. -/
theorem setConfigAppliesAllEntriesOrNone : Obligations.SetConfigAppliesAllEntriesOrNone := by
  refine fun via payload s t o taken => ⟨fun saving => ?_, fun idle malformed => ?_, fun es idle operands => ?_⟩
  · exact request_replied taken (editThen_saving _ _ t saving)
  · exact request_replied taken (by rw [State.setConfigBlock, editThen_idle _ _ t idle, malformed]; rfl)
  · obtain ⟨-, some_entry, once, agree⟩ := readSetConfig_spec operands
    have running := running_of_taken taken
    have frame := applyConfig_frame t es o
    have address : (t.applyConfig es o).linkAddress =
        if touches es 0x01 ∧ o ≠ .unicast then (t.config.applyAll es).unitAddress else t.linkAddress := by
      rw [frame]; exact configuredItems_linkAddress t es o
    have watchdog : (t.applyConfig es o).watchdog =
        if touches es 0x10 ∨ touches es 0x11 then (State.resetWatchdog { t with config := t.config.applyAll es }).watchdog
        else t.watchdog := by
      rw [frame]; exact configuredItems_watchdog t es o
    have thermal : (t.applyConfig es o).thermal = if touches es 0x38 then t.thermal.emptied else t.thermal := by
      rw [frame]; exact configuredItems_thermal t es o
    have waits : (t.applyConfig es o).deferredAddress es o =
        ⟨if touches es 0x01 ∧ o = .unicast then some (t.config.applyAll es).unitAddress else none, false⟩ := by
      rw [State.deferredAddress, config_applyConfig]
    simp only [touches_iff] at address watchdog thermal waits
    refine ⟨some_entry, once, (thresholdsOk_iff _).mp agree, t.applyConfig es o, ⟨.ok, []⟩, _,
      setConfig_taken taken idle operands, rfl, rfl, ?_, fun named => ?_, fun unnamed => ?_, ?_, thermal, fun l x hx => ?_⟩
    · rw [frame]
    · rw [address, waits]
      by_cases unicast : o = .unicast
      · rw [if_pos unicast, if_neg fun both => both.2 unicast, if_pos ⟨named, unicast⟩]
        exact ⟨rfl, rfl⟩
      · rw [if_neg unicast, if_pos ⟨named, unicast⟩, if_neg fun both => unicast both.2]
        exact ⟨rfl, rfl⟩
    · rw [address, waits]
      exact ⟨if_neg fun both => unnamed both.1, if_neg fun both => unnamed both.1⟩
    · rw [watchdog]
      split
      · have runs := watchdogRuns_iff { t with config := t.config.applyAll es }
        refine if_congr (runs.trans ?_) rfl rfl
        exact and_iff_right running
      · rfl
    · rw [line_applyConfig hx]
      exact congrArg some (if_congr (touchesLine_iff es l) rfl rfl)

/-- A channel record after a SET_CONFIG that leaves it at `level` (05 R105, R114). -/
def Channel.configured (x : Channel) (es : List ConfigEntry) (level : Nat) (time : Byte) : Channel :=
  let y := (if touches es 0x33 then x.discardAll else x).drive level time
  if touches es 0x32 then y.restartGoodRun time else y

theorem channel_useGoodRun (s : State) (es : List ConfigEntry) (c : Nat) : (s.useGoodRun es).channel c =
    (s.channel c).map fun x => if touches es 0x32 then x.restartGoodRun s.config.goodRunTime else x := by
  unfold State.useGoodRun
  cases touches es 0x32 with
  | true => exact at1_mapBank _ s.channels c
  | false => exact Option.map_id'.symm

theorem channel_useDeglitch (s : State) (es : List ConfigEntry) (c : Nat) : (s.useDeglitch es).channel c =
    (s.channel c).map fun x => if touches es 0x33 then x.discardAll else x := by
  unfold State.useDeglitch
  cases touches es 0x33 with
  | true => exact at1_mapBank _ s.channels c
  | false => exact Option.map_id'.symm

theorem channel_applyConfig {s : State} {c : Nat} {x : Channel} (hx : s.channel c = some x) (es : List ConfigEntry)
    (o : Origin) : ∃ level, (s.applyConfig es o).channel c =
      some (x.configured es level (s.config.applyAll es).goodRunTime) := by
  have before : ((s.configuredItems es o).useLines es).channel c = some x := by
    rw [useLines_frame, configuredItems_frame]
    exact hx
  have config : (((s.configuredItems es o).useLines es).useDeglitch es).config = s.config.applyAll es := by
    rw [useDeglitch_frame, useLines_frame, configuredItems_frame]
  have driven : (((s.configuredItems es o).useLines es).useDeglitch es).drive.config = s.config.applyAll es := config
  rw [applyConfig_eq, channel_useGoodRun, channel_drive, channel_useDeglitch, before, config, driven]
  exact ⟨(((s.configuredItems es o).useLines es).useDeglitch es).outputLevel c
    (if touches es 0x33 then x.discardAll else x).state, rfl⟩

/-- What a SET_CONFIG leaves of a channel record, and what it makes of its measurements and of its good-run timer. -/
theorem configured_spec (x : Channel) (es : List ConfigEntry) (level : Nat) (time : Byte) :
    (x.configured es level time).level = level ∧ (x.configured es level time).state = x.state ∧
      (x.configured es level time).retryCount = x.retryCount ∧ (x.configured es level time).retryTimer = x.retryTimer ∧
      (x.configured es level time).openLoadFlag = x.openLoadFlag ∧
      (touches es 0x33 = true →
        (x.configured es level time).overcurrent = x.overcurrent.discard.measure (1 ≤ level) ∧
        (x.configured es level time).short = x.short.discard.measure (1 ≤ level) ∧
        (x.configured es level time).openLoad = x.openLoad.discard.measure (64 ≤ level && !x.openLoadFlag)) ∧
      (touches es 0x32 = true → (x.configured es level time).goodRun =
        if x.state = .normal ∧ level ≠ 0 then goodRunStart time else none) := by
  unfold Channel.configured
  refine ⟨?_, ?_, ?_, ?_, ?_, fun deglitch => ?_, fun goodRun => ?_⟩
  case refine_6 =>
    rw [deglitch]
    cases touches es 0x32 <;> exact ⟨rfl, rfl, rfl⟩
  case refine_7 =>
    rw [goodRun]
    cases touches es 0x33 <;> rfl
  all_goals cases touches es 0x33 <;> cases touches es 0x32 <;> rfl

/-- Settles O26: each channel record after the change, read from the record before it. -/
theorem deglitchAndGoodRunChangesActOnEveryChannel : Obligations.DeglitchAndGoodRunChangesActOnEveryChannel := by
  intro via payload s t o es taken idle operands kept
  refine ⟨t.applyConfig es o, _, setConfig_taken taken idle operands, ?_, fun c x hx => ?_⟩
  · rw [applyConfig_eq]
    exact levels_useGoodRun (levels_follow_after_drive _) es
  · obtain ⟨level, hy⟩ := channel_applyConfig hx es o
    obtain ⟨lvl, state, count, timer, flag, deglitch, goodRun⟩ := configured_spec x es level (t.config.applyAll es).goodRunTime
    refine ⟨_, hy, state, count, timer, flag, fun named => ?_, fun named => ?_⟩
    · obtain ⟨current, short, unloaded⟩ := deglitch ((touches_iff es _).mpr named)
      rw [current, short, unloaded, measure_afresh rfl decide_eq_true_iff, measure_afresh rfl decide_eq_true_iff,
        measure_afresh rfl (sensed_openLoad_iff _ _), lvl]
      exact ⟨rfl, rfl, rfl⟩
    · rw [goodRun ((touches_iff es _).mpr named), state, lvl, config_applyConfig, goodRunStart]
      by_cases drives : x.state = .normal ∧ level ≠ 0
      · by_cases never : (t.config.applyAll es).goodRunTime = 0 <;> simp [drives, never]
      · rw [if_neg drives, if_neg fun all => drives ⟨all.1, all.2.1⟩]

end Sys2Proof.Machine
end

section
/-! The temperature, the input lines, the levels, and what an idle step does. -/

namespace Sys2Proof.Machine

/-! ## The Thermal Monitor (05 R119 to R121) -/

/-- What follows a change that left the channel records: the outputs are computed again (05 R102). -/
theorem channelsFollow_drive {s v : State} (channels : v.channels = s.channels) : ChannelsFollow s v.drive := by
  unfold ChannelsFollow
  rw [← channels]
  rfl

theorem thermalStep_normal (i : Items) (reading : Int) : thermalStep i .normal reading =
    if (i.shutdown : Int) ≤ reading then (.shutdown, some .thermalShutdown)
    else if (i.warn : Int) ≤ reading then (.warn, some .thermalWarn) else (.normal, none) := by
  simp [thermalStep]

theorem thermalStep_warn (i : Items) (reading : Int) : thermalStep i .warn reading =
    if (i.shutdown : Int) ≤ reading then (.shutdown, some .thermalShutdown)
    else if reading ≤ (i.warn : Int) - i.hysteresis then (.normal, none) else (.warn, none) := by
  simp [thermalStep]

theorem thermalStep_shutdown (i : Items) (reading : Int) : thermalStep i .shutdown reading =
    if reading ≤ (i.shutdown : Int) - i.hysteresis then (.warn, none) else (.shutdown, none) := by
  simp [thermalStep]

theorem takeReading_eq (s : State) (reading : Int) : s.takeReading reading = { s with
    thermal := ⟨0, 0, some reading, (thermalStep s.config s.thermal.state reading).1⟩
    flags := match (thermalStep s.config s.thermal.state reading).2 with | none => s.flags | some e => s.flags ||| e.set } := by
  unfold State.takeReading State.raiseOption
  dsimp only
  cases (thermalStep s.config s.thermal.state reading).2 <;> rfl

/-- Settles O44: a sample is held, or makes a reading that moves the state by its table. -/
theorem samplesMakeReadingsAndReadingsMoveTheState : Obligations.SamplesMakeReadingsAndReadingsMoveTheState := by
  intro s t live low high kept n reading
  have sample : s.sample t = (s.takeSample t).drive := if_pos ⟨live, by simp [sampleWf, low, high]⟩
  have divides : reading = (s.thermal.sum + t).fdiv n := (Int.fdiv_eq_ediv_of_nonneg _ (Int.natCast_nonneg _)).symm
  refine ⟨(s.takeSample t).drive, congrArg done sample, ?frame, channelsFollow_drive (channels_takeSample s t),
    fun short => ?held, fun full => ?reading⟩
  case frame =>
    have frame : s.takeSample t = { s with thermal := (s.takeSample t).thermal, flags := (s.takeSample t).flags } := by
      unfold State.takeSample
      dsimp only
      split
      · rfl
      · rw [takeReading_eq]
    rw [drive_frame, frame]
  case held =>
    have taken : s.takeSample t = _ := if_pos short
    rw [taken]
    exact ⟨rfl, rfl⟩
  case reading =>
    have taken : s.takeSample t = s.takeReading reading := by
      rw [divides]
      exact if_neg (by rw [full]; exact lt_irrefl _)
    rw [taken, takeReading_eq]
    refine ⟨rfl, rfl, rfl, ?_⟩
    show ((thermalStep s.config s.thermal.state reading).1,
      match (thermalStep s.config s.thermal.state reading).2 with | none => s.flags | some e => s.flags ||| e.set) = _
    cases s.thermal.state with
    | normal =>
      dsimp only
      rw [thermalStep_normal]
      split
      · rfl
      · split <;> rfl
    | warn =>
      dsimp only
      rw [thermalStep_warn]
      split
      · rfl
      · split <;> rfl
    | shutdown =>
      dsimp only
      rw [thermalStep_shutdown]
      split <;> rfl

/-! ## Input lines (06 R126, R127) -/

/-- Settles O45: a raw level that moves, by whether its line is watched and what it had accepted; and the debounce expiry. -/
theorem rawLevelsAreDebouncedAndAccepted : Obligations.RawLevelsAreDebouncedAndAccepted := by
  intro s l level x hx
  have raw : exec (.rawLevelChange l level) s = done (if x.raw = level then s
      else if s.watches l then s.watchRaw l { x with raw := level } else s.setLine l { x with raw := level }) := by
    show done (s.rawChange l level) = _
    rw [State.rawChange, hx]
  have expiry : exec (.debounceExpiry l) s = done (if s.watches l ∧ x.timer = some 0 then s.acceptRaw l x else s) := by
    show done (s.debounceExpiry l) = _
    rw [State.debounceExpiry, hx]
  rw [raw, expiry]
  refine ⟨fun same => congrArg done (if_pos same), fun moved => ?_, fun runs => congrArg done (if_neg fun both => runs both.2),
    fun watched out => congrArg done (if_pos ⟨watched, out⟩)⟩
  rw [if_neg moved]
  refine ⟨fun unwatched => ?_, fun watched back => ?_, fun watched away debounced => ?_, fun watched away instant => ?_⟩
  · exact congrArg done (if_neg (by rw [unwatched]; exact nofun))
  · rw [if_pos watched]
    exact congrArg done (if_pos back)
  · rw [if_pos watched]
    exact congrArg done ((if_neg away).trans (if_neg debounced))
  · rw [if_pos watched]
    exact congrArg done ((if_neg away).trans (if_pos instant))

/-! ## Levels (03 R66 to R71) -/

theorem scaledLevel_le (c : Nat) (scale trim : Byte) : scaledLevel c scale.toNat trim.toNat ≤ c := by
  have hs : scale.toNat ≤ 255 := Nat.le_of_lt_succ scale.isLt
  have ht : trim.toNat ≤ 255 := Nat.le_of_lt_succ trim.isLt
  refine Nat.div_le_of_le_mul ?_
  calc c * scale.toNat * trim.toNat ≤ c * 255 * 255 := Nat.mul_le_mul (Nat.mul_le_mul_left c hs) ht
    _ = 65025 * c := by omega

theorem playLevel_beforeFade {p : Play} (before : p.phase.beforeFade = true) (r : CueRecord) (c : Nat) :
    playLevel r p c = r.levelAt p.step c := by
  unfold playLevel
  cases hp : p.phase with
  | fadeout => rw [hp] at before; exact nomatch before
  | delay | ramp | hold | sustain => rfl

theorem playLevel_fadeout {p : Play} {origins : List OriginLevel} {k : Nat} (fading : p.phase = .fadeout origins k)
    (r : CueRecord) (c : Nat) : playLevel r p c = fadeLevel (originLevel origins c) r.releaseFade.toNat k := by
  rw [playLevel, fading]

theorem fadeLevel_le (l0 r k : Nat) : fadeLevel l0 r k ≤ l0 := by
  refine Nat.div_le_of_le_mul ?_
  rw [Nat.mul_comm r l0]
  exact Nat.mul_le_mul_left l0 (Nat.sub_le r k)

theorem fadeLevel_anti (l0 r : Nat) {k j : Nat} (h : k ≤ j) : fadeLevel l0 r j ≤ fadeLevel l0 r k :=
  Nat.div_le_div_right (Nat.mul_le_mul_left l0 (Nat.sub_le_sub_left h r))

theorem deratedLevel_le {p d : Nat} (h : d ≤ 256) : deratedLevel p d ≤ p := by
  refine Nat.div_le_of_le_mul ?_
  rw [Nat.mul_comm 256 p]
  exact Nat.mul_le_mul_left p h

/-- The recomputation measures each condition where the new level has it sensed (05 R103, R108). -/
theorem sense_drive (x : Channel) (level : Nat) (time : Byte) (cond : FaultCondition) :
    ∃ sensed : Bool, (x.drive level time).sense cond = (x.sense cond).measure sensed ∧
      (sensed = true ↔ (if cond = .openLoad then 64 else 1) ≤ level ∧ (cond = .openLoad → x.openLoadFlag = false)) := by
  cases cond with
  | overcurrent => exact ⟨_, rfl, by simp⟩
  | short => exact ⟨_, rfl, by simp⟩
  | openLoad => exact ⟨_, rfl, by simp⟩

theorem gated_of_dark {s : State} {state : SupervisorState} (h : s.stage ≠ .running ∨ state ≠ .normal ∨
    s.thermal.state = .shutdown) : s.gated state = true := by
  rcases h with stopped | tripped | hot
  · simp [State.gated, State.running, stopped]
  · simp [State.gated, tripped]
  · simp [State.gated, hot]

theorem not_gated {s : State} (running : s.stage = .running) (cool : s.thermal.state ≠ .shutdown) :
    s.gated .normal = false := by
  simp [State.gated, State.running, running, cool]

theorem outputLevel_of_gated {s : State} {state : SupervisorState} (gated : s.gated state = true) (c : Nat) :
    s.outputLevel c state = 0 := if_pos gated

theorem outputLevel_of_owner {s : State} {c id : Nat} (owner : s.owner c = some id) (state : SupervisorState) :
    s.outputLevel c state = if s.gated state then 0
      else deratedLevel (s.levelOf id c) (derateInForce s.thermal.state s.config.derate) := by
  rw [State.outputLevel, owner]

/-- Settles O51: the play, fade and output levels, and what a recomputation makes of a channel record. -/
theorem playFadeAndOutputLevelsRoundDownOnce : Obligations.PlayFadeAndOutputLevelsRoundDownOnce := by
  refine ⟨fun r p c scale before hscale => ?play, fun r p c k origins fading => ?fade,
    fun s => ⟨rfl, fun c x hx => ?channel⟩, fun s c state => ⟨fun dark => ?dark, fun id owner => ?owned⟩⟩
  case play =>
    have level : playLevel r p c = scaledLevel (curveValue r.curve p.step.toNat) scale.toNat r.trim.toNat :=
      (playLevel_beforeFade before r c).trans (levelAt_of_scaleOf_some hscale p.step)
    rw [level]
    exact ⟨rfl, scaledLevel_le _ _ _⟩
  case fade =>
    rw [playLevel_fadeout fading]
    refine ⟨rfl, fadeLevel_le _ _ _, fun start fades => ?_, fun j later => ?_⟩
    · rw [start, fadeLevel, Nat.sub_zero]
      exact Nat.mul_div_cancel _ (Nat.pos_of_ne_zero fun zero => fades (BitVec.eq_of_toNat_eq zero))
    · rw [playLevel_fadeout rfl]
      exact fadeLevel_anti _ _ later
  case channel =>
    refine ⟨x.drive (s.outputLevel c x.state) s.config.goodRunTime, ?_, rfl, rfl, rfl, rfl, rfl, fun off => if_pos off,
      fun lit rose => (if_neg lit).trans (if_pos rose), fun lit was => (if_neg lit).trans (if_neg was), fun cond => ?_⟩
    · rw [channel_drive, hx]; rfl
    · obtain ⟨now, measured, sensed⟩ := sense_drive x (s.outputLevel c x.state) s.config.goodRunTime cond
      have runs : (x.sense cond).reported = true ∧ now = true ↔ _ := and_congr_right' sensed
      dsimp only
      rw [measured, persistence_measure]
      exact ⟨rfl, fun off => if_neg (mt runs.mp off), fun on fresh => by rw [fresh]; exact if_pos (runs.mpr on),
        fun on long running => by rw [running]; exact if_pos (runs.mpr on)⟩
  case dark =>
    rcases dark with stopped | tripped | locked | hot | unowned
    · exact outputLevel_of_gated (gated_of_dark (.inl stopped)) c
    · exact outputLevel_of_not_normal (by rw [tripped]; exact nofun) c
    · exact outputLevel_of_not_normal (by rw [locked]; exact nofun) c
    · exact outputLevel_of_gated (gated_of_dark (.inr (.inr hot))) c
    · rw [State.outputLevel, unowned]
      split <;> rfl
  case owned =>
    rw [outputLevel_of_owner owner]
    refine ⟨fun running normal cool => ?_, fun p hp => ?_, fun factor => ?_⟩
    · rw [normal, not_gated running cool, if_neg nofun, deratedLevel]
      cases heat : s.thermal.state with
      | normal => rfl
      | warn => rfl
      | shutdown => exact absurd heat cool
    · rw [State.levelOf, hp]
    · split
      · exact Nat.zero_le _
      · refine deratedLevel_le ?_
        cases s.thermal.state with
        | normal => exact le_rfl
        | warn => exact factor
        | shutdown => exact Nat.zero_le _

end Sys2Proof.Machine
end

section
/-! What an idle step does: the expiries that are due, and 50 µs of time (log 2, log 3). -/

namespace Sys2Proof.Machine

/-! ## What is due -/

/-- The play in record `id` has run out in a phase that the expiry asks for, and the Play Engine is not frozen. -/
def State.PlayOut (s : State) (id : Nat) (phase : Phase → Prop) : Prop :=
  s.frozen = false ∧ ∃ p, s.play id = some p ∧ p.timer = 0 ∧ phase p.phase

/-- A condition has persisted for the deglitch time on a NORMAL channel. -/
def State.Detected (s : State) (c : Nat) (cond : FaultCondition) : Prop :=
  ∃ x, s.channel c = some x ∧ x.detects s.config cond = true

theorem mem_playsDue_iff (s : State) (e : Instr) : e ∈ playIds.filterMap s.playDue ↔
    match e with
    | .delayExpiry id => s.PlayOut id (· = .delay)
    | .rampStepExpiry id => s.PlayOut id (· = .ramp)
    | .holdExpiry id => s.PlayOut id (· = .hold)
    | .fadeStepExpiry id => s.PlayOut id fun phase => ∃ origins k, phase = .fadeout origins k
    | _ => False := by
  have due (id : Nat) : s.playDue id = some e ↔
      s.frozen = false ∧ ∃ p, s.play id = some p ∧ p.timer = 0 ∧ p.phase.expiry id = some e := by
    unfold State.playDue
    cases out : s.expiring id with
    | none =>
      refine iff_of_false nofun ?_
      rintro ⟨thawed, p, hp, zero, -⟩
      exact nomatch out.symm.trans ((expiring_iff s id p).mpr ⟨thawed, hp, zero⟩)
    | some p =>
      obtain ⟨thawed, hp, zero⟩ := (expiring_iff s id p).mp out
      refine ⟨fun h => ⟨thawed, p, hp, zero, h⟩, fun ⟨_, q, hq, _, h⟩ => ?_⟩
      rw [← Option.some.inj (hp.symm.trans hq)] at h
      exact h
  have inside {id : Nat} {p : Play} (hp : s.play id = some p) : id ∈ playIds := (mem_playIds id).mpr (id_of_play s id p hp)
  have member {id : Nat} {p : Play} (thawed : s.frozen = false) (hp : s.play id = some p) (zero : p.timer = 0)
      (expiry : p.phase.expiry id = some e) : e ∈ playIds.filterMap s.playDue :=
    List.mem_filterMap.mpr ⟨id, inside hp, (due id).mpr ⟨thawed, p, hp, zero, expiry⟩⟩
  constructor
  · rw [List.mem_filterMap]
    rintro ⟨id, -, expired⟩
    obtain ⟨thawed, p, hp, zero, expiry⟩ := (due id).mp expired
    cases phase : p.phase with
    | sustain => rw [phase] at expiry; exact nomatch expiry
    | delay | ramp | hold =>
      rw [phase] at expiry
      obtain rfl := Option.some.inj expiry
      exact ⟨thawed, p, hp, zero, phase⟩
    | fadeout origins k =>
      rw [phase] at expiry
      obtain rfl := Option.some.inj expiry
      exact ⟨thawed, p, hp, zero, origins, k, phase⟩
  · intro out
    cases e with
    | delayExpiry | rampStepExpiry | holdExpiry =>
      obtain ⟨thawed, p, hp, zero, phase⟩ := out
      exact member thawed hp zero (by rw [phase]; rfl)
    | fadeStepExpiry =>
      obtain ⟨thawed, p, hp, zero, origins, k, phase⟩ := out
      exact member thawed hp zero (by rw [phase]; rfl)
    | _ => exact out.elim

theorem mem_due_of_channel_iff (x : Channel) (i : Items) (c : Nat) (e : Instr) : e ∈ x.due i c ↔
    match e with
    | .trip d cond => d = c ∧ cond ≠ .openLoad ∧ x.detects i cond = true
    | .openLoadDetection d => d = c ∧ x.detects i .openLoad = true
    | .retryExpiry d => d = c ∧ x.retryDue = true
    | .goodRunExpiry d => d = c ∧ x.goodRunDue i = true
    | _ => False := by
  have single (b : Bool) (f : Instr) : e ∈ (if b then [f] else []) ↔ b = true ∧ e = f := by cases b <;> simp
  simp only [Channel.due, List.mem_append, single, List.mem_map, List.mem_filter, List.mem_cons, List.not_mem_nil, or_false]
  cases e with
  | trip d cond =>
    simp only [Instr.trip.injEq, reduceCtorEq, and_false, or_false]
    constructor
    · rintro ⟨f, ⟨named, detected⟩, rfl, rfl⟩
      exact ⟨rfl, by rcases named with rfl | rfl <;> exact nofun, detected⟩
    · rintro ⟨rfl, other, detected⟩
      refine ⟨cond, ⟨?_, detected⟩, rfl, rfl⟩
      cases cond with
      | openLoad => exact absurd rfl other
      | overcurrent => exact .inl rfl
      | short => exact .inr rfl
  | openLoadDetection d | retryExpiry d | goodRunExpiry d => simpa using and_comm
  | _ => simp

theorem mem_channelsDue_iff (s : State) (e : Instr) : e ∈ (List.range' 1 16).flatMap s.channelDue ↔
    match e with
    | .trip c cond => cond ≠ .openLoad ∧ s.Detected c cond
    | .openLoadDetection c => s.Detected c .openLoad
    | .retryExpiry c => ∃ x, s.channel c = some x ∧ x.retryDue = true
    | .goodRunExpiry c => ∃ x, s.channel c = some x ∧ x.goodRunDue s.config = true
    | _ => False := by
  have due : e ∈ (List.range' 1 16).flatMap s.channelDue ↔ ∃ c x, s.channel c = some x ∧ e ∈ x.due s.config c := by
    rw [List.mem_flatMap]
    constructor
    · rintro ⟨c, -, member⟩
      unfold State.channelDue at member
      cases hx : s.channel c with
      | none => rw [hx] at member; exact nomatch member
      | some x => rw [hx] at member; exact ⟨c, x, hx, member⟩
    · rintro ⟨c, x, hx, member⟩
      exact ⟨c, mem_channelIds_of_channel hx, by rw [State.channelDue, hx]; exact member⟩
  simp only [due, mem_due_of_channel_iff]
  cases e with
  | trip d cond =>
    constructor
    · rintro ⟨c, x, hx, rfl, other, detected⟩
      exact ⟨other, x, hx, detected⟩
    · rintro ⟨other, x, hx, detected⟩
      exact ⟨d, x, hx, rfl, other, detected⟩
  | openLoadDetection d | retryExpiry d | goodRunExpiry d =>
    constructor
    · rintro ⟨c, x, hx, rfl, out⟩
      exact ⟨x, hx, out⟩
    · rintro ⟨x, hx, out⟩
      exact ⟨d, x, hx, rfl, out⟩
  | _ => exact iff_of_false (fun ⟨_, _, _, absurd⟩ => absurd) id

theorem mem_lineIds_of_line {s : State} {l : Nat} {x : Line} (hx : s.line l = some x) : l ∈ List.range' 1 8 := by
  have range := (at1_isSome_iff s.lines l).mp (by rw [show at1 s.lines l = some x from hx]; rfl)
  exact List.mem_range'_1.mpr ⟨range.1, by omega⟩

theorem mem_patternIds_of_pattern {s : State} {k : Nat} {x : Pattern} (hx : s.pattern k = some x) : k ∈ patternIds := by
  have range := (at1_isSome_iff s.patterns k).mp (by rw [show at1 s.patterns k = some x from hx]; rfl)
  exact List.mem_range'_1.mpr ⟨range.1, by omega⟩

theorem mem_linesDue_iff (s : State) (e : Instr) : e ∈ (List.range' 1 8).filterMap s.lineDue ↔
    match e with
    | .debounceExpiry l => s.watches l = true ∧ ∃ x, s.line l = some x ∧ x.timer = some 0
    | _ => False := by
  have due : e ∈ (List.range' 1 8).filterMap s.lineDue ↔
      ∃ l, (s.watches l = true ∧ ∃ x, s.line l = some x ∧ x.timer = some 0) ∧ e = .debounceExpiry l := by
    simp only [List.mem_filterMap, State.lineDue, Option.any_eq_true, beq_iff_eq, Option.ite_none_right_eq_some,
      Option.some_inj]
    constructor
    · rintro ⟨l, -, out, rfl⟩
      exact ⟨l, out, rfl⟩
    · rintro ⟨l, ⟨watched, x, hx, zero⟩, rfl⟩
      exact ⟨l, mem_lineIds_of_line hx, ⟨watched, x, hx, zero⟩, rfl⟩
  rw [due]
  cases e with
  | debounceExpiry l => simp
  | _ => simp

theorem mem_windowsDue_iff (s : State) (e : Instr) : e ∈ patternIds.filterMap s.windowDue ↔
    match e with
    | .windowExpiry k => ∃ x, s.pattern k = some x ∧ x.window = some 0
    | _ => False := by
  have due : e ∈ patternIds.filterMap s.windowDue ↔
      ∃ k, (∃ x, s.pattern k = some x ∧ x.window = some 0) ∧ e = .windowExpiry k := by
    simp only [List.mem_filterMap, State.windowDue, Option.any_eq_true, beq_iff_eq, Option.ite_none_right_eq_some,
      Option.some_inj]
    constructor
    · rintro ⟨k, -, out, rfl⟩
      exact ⟨k, out, rfl⟩
    · rintro ⟨k, ⟨x, hx, zero⟩, rfl⟩
      exact ⟨k, mem_patternIds_of_pattern hx, ⟨x, hx, zero⟩, rfl⟩
  rw [due]
  cases e with
  | windowExpiry k => simp
  | _ => simp

/-- Outside reset the expiries that are due are those of the stage, the plays, the channels, the lines, the windows and the
watchdog, and nothing else (log 2). -/
theorem mem_due_iff (s : State) (e : Instr) : e ∈ s.due ↔ s.stage ≠ .held ∧
    (s.stage = .settling 0 ∧ e = .entryToRunning ∨ e ∈ playIds.filterMap s.playDue ∨
      e ∈ (List.range' 1 16).flatMap s.channelDue ∨ e ∈ (List.range' 1 8).filterMap s.lineDue ∨
      e ∈ patternIds.filterMap s.windowDue ∨ s.watchdog = some 0 ∧ e = .watchdogExpiry) := by
  have single (p : Prop) [Decidable p] (f : Instr) : e ∈ (if p then [f] else []) ↔ p ∧ e = f := by
    by_cases hp : p <;> simp [hp]
  unfold State.due
  by_cases held : s.stage = .held
  · simp [held]
  · rw [if_neg held]
    simp only [List.mem_append, single, or_assoc, ne_eq, held, not_false_eq_true, true_and]

/-! ## 50 µs (log 2) -/

theorem pick_mem {ties : Nat} {l : List Instr} {e : Instr} (h : pick ties l = some e) : e ∈ l := by
  match l with
  | [] => exact nomatch h
  | [x] => exact List.mem_singleton.mpr (Option.some.inj h).symm
  | x :: y :: more =>
    have inside : Config.tieBreak ties % (more.length + 2) < (x :: y :: more).length := Nat.mod_lt _ (Nat.succ_pos _)
    rw [← Option.some.inj h, List.getD_eq_getElem _ _ inside]
    exact List.getElem_mem _

theorem pick_isSome {l : List Instr} (h : l ≠ []) (ties : Nat) : ∃ e, pick ties l = some e := by
  match l with
  | [] => exact absurd rfl h
  | [x] => exact ⟨x, rfl⟩
  | x :: y :: more => exact ⟨_, rfl⟩

theorem step_idle {s : State} (empty : s.pending = []) : step s = idle s := by
  rw [step, empty]

theorem tick_micros {s : State} (live : s.stage ≠ .held) :
    s.tick.micros = if s.micros + 50 < 1000 then s.micros + 50 else 0 := by
  unfold State.tick
  rw [if_neg live]
  unfold State.tickPlays
  split
  · next short => exact (if_pos short).symm
  · next whole => exact (if_neg whole).symm

theorem tick_patterns {s : State} (live : s.stage ≠ .held) :
    s.tick.patterns = mapBank (fun x => { x with window := countDown x.window }) s.patterns := by
  unfold State.tick
  rw [if_neg live, tickPlays_frame]

theorem play_tick_eq {s : State} (live : s.stage ≠ .held) (id : Nat) : s.tick.play id = (s.play id).map fun p =>
    if s.frozen = true ∨ s.micros + 50 < 1000 then p else { p with timer := p.timer - 1 } := by
  have read (o : Option (Option Play)) (f : Play → Play) : (o.map fun q => q.map f).join = o.join.map f := by
    rcases o with _ | _ | _ <;> rfl
  unfold State.tick
  rw [if_neg live]
  unfold State.tickPlays
  split
  · next short =>
    have same : (fun p : Play => if s.frozen = true ∨ s.micros + 50 < 1000 then p else { p with timer := p.timer - 1 }) = fun p => p :=
      funext fun p => if_pos (Or.inr short)
    rw [same, Option.map_id']
    rfl
  · next whole =>
    have same : (fun p : Play => if s.frozen = true ∨ s.micros + 50 < 1000 then p else { p with timer := p.timer - 1 }) =
        (·.tick s.frozen) := by
      funext p
      have late : ¬s.micros + 50 < 1000 := whole
      exact if_congr (or_iff_left late) rfl rfl
    rw [same, State.play, at1_mapBank, read]
    rfl

/-- Settles O2: the expiries that are due, by what has run out; the choice among them; and 50 µs when none is. -/
theorem idleStepTakesADueExpiryOrFiftyMicroseconds : Obligations.IdleStepTakesADueExpiryOrFiftyMicroseconds := by
  refine ⟨fun s e => ?due, fun s empty => ?time⟩
  case due =>
    intro time out detected
    have detects (c : Nat) (cond : FaultCondition) : s.Detected c cond ↔ detected c cond := by
      have deglitch : s.config.deglitch.us = time := by
        show _ = match s.config.deglitch with | .us50 => 50 | .us100 => 100 | .us200 => 200 | .us400 => 400
        cases s.config.deglitch <;> rfl
      simp only [State.Detected, detects_iff, deglitch]
      exact exists_congr fun x => by simp only [exists_and_left]
    rw [mem_due_iff, mem_playsDue_iff, mem_channelsDue_iff, mem_linesDue_iff, mem_windowsDue_iff]
    refine and_congr_right fun live => ?_
    cases e with
    | trip c cond => simp [detects]
    | openLoadDetection c => simp [detects]
    | retryExpiry c => simp [retryDue_iff]
    | goodRunExpiry c => simp [goodRunDue_iff]
    | debounceExpiry l => simp [State.watches, State.running, and_assoc]
    | entryToRunning | watchdogExpiry | delayExpiry | rampStepExpiry | holdExpiry | fadeStepExpiry | windowExpiry =>
      simp [State.PlayOut, out]
    | _ => simp
  case time =>
    intro down up
    refine ⟨fun some => ?_, fun none held => ?_, fun none live => ?_⟩
    · obtain ⟨e, picked⟩ := pick_isSome some s.ties
      refine ⟨e, pick_mem picked, ?_⟩
      rw [step_idle empty, idle, picked]
    · rw [step_idle empty, idle, none, pick, tick_held s held]
    · refine ⟨s.tick, by rw [step_idle empty, idle, none, pick], ?_, tick_frame s, tick_micros live, ?_, play_tick_eq live,
        fun c => ?_, fun l => ?_, fun k => ?_, tick_watchdog live⟩
      · rw [tick_frame]
      · rw [tick_stage]
        cases s.stage <;> rfl
      · rw [State.channel, tick_channels live, at1_mapBank]
        rfl
      · rw [State.line, tick_lines live, at1_mapBank]
        rfl
      · rw [State.pattern, tick_patterns live, at1_mapBank]
        rfl

end Sys2Proof.Machine
end

section
/-! What the operations on one play leave behind: its end, its restart, its release, and a play that is made. -/

namespace Sys2Proof.Machine

/-! ## Frames and the outputs that follow -/

theorem playSide_of_frame {s v : State} (h : PlayFrame s v) : PlaySide s v := by
  unfold PlaySide
  rw [h]

theorem playSide_drive {s v : State} (h : PlayFrame s v) : PlaySide s v.drive := by
  unfold PlaySide
  rw [drive_frame, h]

theorem follows_drive {s v : State} (h : PlayFrame s v) : ChannelsFollow s v.drive := channelsFollow_drive h.channels

theorem SameEvents.trans {s t u : State} (h₁ : SameEvents s t) (h₂ : SameEvents t u) : SameEvents s u :=
  ⟨h₂.1.trans h₁.1, h₂.2.1.trans h₁.2.1, h₂.2.2.trans h₁.2.2⟩

/-! ## One play -/

theorem others_setPlay (s : State) (id : Nat) (x : Option Play) : OtherPlaysStand s (s.setPlay id x) id :=
  fun j other => play_setPlay_other s id j x other

theorem setPlay_written {s : State} {id : Nat} {p : Play} (hp : s.play id = some p) (x : Option Play) :
    (s.setPlay id x).play id = x := play_setPlay_same s id x (id_of_play s id p hp)

theorem others_endPlay (s : State) (id : Nat) : OtherPlaysStand s (s.endPlay id) id := fun _ other => play_endPlay_other s other

theorem ended_endPlay {s : State} {id : Nat} {p : Play} (hp : s.play id = some p) : Ended s (s.endPlay id) id p :=
  ⟨play_endPlay s id, claimList_endPlay hp, slot_endPlay hp⟩

theorem others_fillRecord (s : State) {id : Nat} (range : 1 ≤ id ∧ id ≤ 24) (cue : Nat) (source : Source) (priority : Nat) :
    OtherPlaysStand s (s.fillRecord id cue source priority) id :=
  fun j other => by rw [play_fillRecord s range, if_neg other]

theorem others_restart {s : State} {id : Nat} {p : Play} (hp : s.play id = some p) (source : Source) (priority : Nat) :
    OtherPlaysStand s (s.restart id source priority) id := by
  rw [restart_eq_fillRecord hp]
  exact others_fillRecord s (id_of_play s id p hp) _ _ _

theorem sameEvents_restart {s : State} {id : Nat} {p : Play} (hp : s.play id = some p) (source : Source) (priority : Nat) :
    SameEvents s (s.restart id source priority) := by
  rw [restart_eq_fillRecord hp]
  exact sameEvents_fillRecord s _ _ _ _

theorem restarted_restart {s : State} {id : Nat} {p : Play} (hp : s.play id = some p) (source : Source) (priority : Nat) :
    Restarted s (s.restart id source priority) id p source priority := by
  have range := id_of_play s id p hp
  rw [restart_eq_fillRecord hp]
  exact ⟨(play_fillRecord s range _ _ _ id).trans (if_pos rfl), fun c hc => claimList_fillRecord s range _ _ _ hc,
    fillRecord_slots s _ _ _ _⟩

theorem endOrRestart_of_play {s : State} {id : Nat} {p : Play} (hp : s.play id = some p) : s.endOrRestart id =
    if p.pendingRestart then s.restart id p.source (s.recordOf p).priority else s.endPlay id := by
  rw [State.endOrRestart, hp]

theorem others_endOrRestart {s : State} {id : Nat} {p : Play} (hp : s.play id = some p) :
    OtherPlaysStand s (s.endOrRestart id) id := by
  rw [endOrRestart_of_play hp]
  split
  · exact others_restart hp _ _
  · exact others_endPlay s id

theorem sameEvents_endOrRestart {s : State} {id : Nat} {p : Play} (hp : s.play id = some p) :
    SameEvents s (s.endOrRestart id) := by
  rw [endOrRestart_of_play hp]
  split
  · exact sameEvents_restart hp _ _
  · exact sameEvents_endPlay s id

/-! ## Releases (02 R42, R50, R53) -/

theorem releasePlay_of_beforeFade {s : State} {id : Nat} {p : Play} (hp : s.play id = some p)
    (before : p.phase.beforeFade = true) : s.releasePlay id =
      if (s.recordOf p).releaseFade = 0 then s.endOrRestart id else s.setPlay id (some (p.toFadeout (s.recordOf p))) := by
  rw [State.releasePlay, hp]
  dsimp only
  cases phase : p.phase with
  | fadeout => rw [phase] at before; exact nomatch before
  | delay | ramp | hold | sustain => rfl

theorem releasePlay_of_fade {s : State} {id : Nat} {p : Play} (hp : s.play id = some p)
    (fading : p.phase.beforeFade = false) : s.releasePlay id = s := by
  rw [State.releasePlay, hp]
  dsimp only
  cases phase : p.phase with
  | fadeout => rfl
  | delay | ramp | hold | sustain => rw [phase] at fading; exact nomatch fading

theorem others_releasePlay {s : State} {id : Nat} {p : Play} (hp : s.play id = some p) :
    OtherPlaysStand s (s.releasePlay id) id := by
  cases before : p.phase.beforeFade with
  | false => rw [releasePlay_of_fade hp before]; exact fun _ _ => rfl
  | true =>
    rw [releasePlay_of_beforeFade hp before]
    split
    · exact others_endOrRestart hp
    · exact others_setPlay s id _

theorem sameEvents_releasePlay {s : State} {id : Nat} {p : Play} (hp : s.play id = some p) :
    SameEvents s (s.releasePlay id) := by
  cases before : p.phase.beforeFade with
  | false => rw [releasePlay_of_fade hp before]; exact ⟨rfl, rfl, rfl⟩
  | true =>
    rw [releasePlay_of_beforeFade hp before]
    split
    · exact sameEvents_endOrRestart hp
    · exact ⟨rfl, rfl, rfl⟩

theorem released_releasePlay {s : State} {id : Nat} {p : Play} (hp : s.play id = some p)
    (before : p.phase.beforeFade = true) : Released s (s.releasePlay id) id p := by
  rw [releasePlay_of_beforeFade hp before]
  unfold Released
  by_cases instant : (s.recordOf p).releaseFade = 0
  · rw [if_neg (not_not.mpr instant), if_pos instant, endOrRestart_of_play hp]
    cases pending : p.pendingRestart with
    | true => exact restarted_restart hp _ _
    | false => exact ended_endPlay hp
  · rw [if_pos instant, if_neg instant]
    exact ⟨setPlay_written hp _, rfl, rfl⟩

theorem clearPending_of_play {s : State} {id : Nat} {p : Play} (hp : s.play id = some p) :
    s.clearPending id = s.setPlay id (some { p with pendingRestart := false }) := by
  rw [State.clearPending, hp]

/-- What a release request does to a play, before FADEOUT and in it (02 R56). -/
theorem requestRelease_spec {s : State} {id : Nat} {p : Play} (hp : s.play id = some p) :
    OtherPlaysStand s (s.requestRelease id) id ∧ SameEvents s (s.requestRelease id) ∧
      (p.phase.beforeFade = true → Released s (s.requestRelease id) id { p with pendingRestart := false }) ∧
      (p.phase.beforeFade = false → (s.requestRelease id).play id = some { p with pendingRestart := false } ∧
        (s.requestRelease id).claims = s.claims ∧ (s.requestRelease id).slots = s.slots) := by
  have cleared := setPlay_written hp (some { p with pendingRestart := false })
  unfold State.requestRelease
  rw [clearPending_of_play hp]
  refine ⟨fun j other => ?_, sameEvents_releasePlay cleared, fun before => released_releasePlay cleared before, fun fading => ?_⟩
  · rw [others_releasePlay cleared j other, others_setPlay s id _ j other]
  · rw [releasePlay_of_fade cleared fading]
    exact ⟨cleared, rfl, rfl⟩

/-! ## Plays that are made (02 R34) -/

theorem evicted_evictAll {s : State} {marks : List Nat} (plays : ∀ e ∈ marks, (s.play e).isSome = true) (nodup : marks.Nodup)
    (n : Nat) : Evicted s (s.evictAll n marks) n marks := by
  refine ⟨slot_evictAll s n marks, lastRefusal_evictAll s n marks, fun none => ?_,
    fun e p last hp => events_evictAll plays nodup n last hp⟩
  subst none
  exact ⟨rfl, rfl⟩

/-- What was evicted stays so when the record is then filled. -/
theorem evicted_fillRecord {s t : State} {n : Nat} {marks : List Nat} (h : Evicted s t n marks) (id cue : Nat)
    (source : Source) (priority : Nat) : Evicted s (t.fillRecord id cue source priority) n marks := by
  obtain ⟨slots, refusal, silent, last⟩ := h
  obtain ⟨flags, lastRefusal, lastEviction⟩ := sameEvents_fillRecord t id cue source priority
  refine ⟨fun m => (slot_fillRecord t id cue m source priority).trans (slots m), lastRefusal.trans refusal, fun none => ?_,
    fun e p he hp => ?_⟩
  · exact ⟨flags.trans (silent none).1, lastEviction.trans (silent none).2⟩
  · exact ⟨flags.trans (last e p he hp).1, lastEviction.trans (last e p he hp).2⟩

/-- The admission of a new play: the marked ones evicted, the record filled, the claims placed (02 R34, 04 R86). -/
theorem playMade_admitted {s : State} {n id : Nat} {marks : List Nat} (absent : s.playOf n = none) (range : 1 ≤ id ∧ id ≤ 24)
    (plays : ∀ e ∈ marks, (s.play e).isSome = true) (nodup : marks.Nodup) (source : Source) (priority : Nat) :
    PlayMade s ((s.evictAll n marks).fillRecord id n source priority) n source priority marks marks id := by
  have slot := slot_evictAll_of_absent absent n marks
  refine ⟨?_, fun j other => ?_, fun c hc => ?_, evicted_fillRecord (evicted_evictAll plays nodup n) id n source priority⟩
  · rw [play_fillRecord _ range, if_pos rfl, slot]
  · rw [play_fillRecord _ range, if_neg other, play_evictAll]
  · rw [claimList_fillRecord _ range _ _ _ hc, slot, claimList_evictAll plays nodup]

/-- The chain variant: the chaining play's own claims leave too (02 R49, 04 R92). -/
theorem playMade_handedOver {s : State} {n id : Nat} {marks : List Nat} (absent : s.playOf n = none)
    (range : 1 ≤ id ∧ id ≤ 24) (plays : ∀ e ∈ marks, (s.play e).isSome = true) (nodup : marks.Nodup) (source : Source)
    (priority : Nat) : PlayMade s (((s.evictAll n marks).removeClaims id).fillRecord id n source priority) n source priority
      marks (id :: marks) id := by
  have slot : ((s.evictAll n marks).removeClaims id).slot n = s.slot n := slot_evictAll_of_absent absent n marks
  have left (c : Nat) : ((s.evictAll n marks).removeClaims id).claimList c =
      (s.claimList c).filter fun j => decide (j ∉ id :: marks) := by
    rw [claimList_removeClaims, claimList_evictAll plays nodup, List.filter_filter]
    congr 1
    funext j
    by_cases here : j = id <;> simp [here]
  refine ⟨?_, fun j other => ?_, fun c hc => ?_,
    evicted_fillRecord (t := (s.evictAll n marks).removeClaims id) (evicted_evictAll plays nodup n) id n source priority⟩
  · rw [play_fillRecord _ range, if_pos rfl, slot]
  · rw [play_fillRecord _ range, if_neg other]
    exact play_evictAll s n marks j
  · rw [claimList_fillRecord _ range _ _ _ hc, slot, left]

/-! ## The lowest free id (02 R28, R34) -/

theorem lowestFreeId_iff {s : State} {id : Nat} : s.lowestFreeId = some id ↔
    s.play id = none ∧ (1 ≤ id ∧ id ≤ 23) ∧ ∀ j, 1 ≤ j → j < id → s.play j ≠ none := by
  rw [State.lowestFreeId, List.find?_range'_eq_some, List.mem_range'_1, Option.isNone_iff_eq_none]
  refine and_congr_right fun _ => and_congr (by omega) ?_
  simp only [Bool.not_eq_true', Option.isNone_eq_false_iff, ← Option.ne_none_iff_isSome]

/-- With 22 ordinary plays or fewer one of the ids 1..23 is free (02 R34). -/
theorem free_id_of_room {s : State} (kept : EngineKept s) (room : s.ordinaryTotal < 23) :
    ∃ id, 1 ≤ id ∧ id ≤ 23 ∧ s.play id = none := by
  by_contra full
  push Not at full
  have ids : playIds = List.range' 1 23 ++ [24] := by decide
  have ordinary : (List.range' 1 23).countP (fun id => (s.play id).any (·.source != .fallback)) = 23 := by
    refine (List.countP_eq_length.mpr fun id hid => ?_).trans List.length_range'
    obtain ⟨low, high⟩ := List.mem_range'_1.mp hid
    obtain ⟨p, hp⟩ := Option.ne_none_iff_exists'.mp (full id low (by omega))
    have other := ((keptIn_ordinary (by omega)).mp (kept.1 id p hp)).1
    rw [hp]
    simpa using other
  rw [State.ordinaryTotal, ids, List.countP_append, ordinary] at room
  omega

theorem lowestFreeId_after {s : State} (kept : EngineKept s) (room : s.ordinaryTotal < 23) (n : Nat) (marks : List Nat) :
    ∃ id, (s.evictAll n marks).lowestFreeId = some id := by
  obtain ⟨id, low, high, free⟩ := free_id_of_room kept room
  refine Option.ne_none_iff_exists'.mp fun none => ?_
  have taken := List.find?_eq_none.mp none id (List.mem_range'_1.mpr ⟨low, by omega⟩)
  rw [play_evictAll, free, ite_self] at taken
  exact taken rfl

end Sys2Proof.Machine
end

section
/-! Triggers and releases as requests ask for them. -/

namespace Sys2Proof.Machine

/-! ## What a trigger of a cue with an ordinary play does (02 R31, R32, R33) -/

theorem recordOf_of_playOf {s : State} {n id : Nat} {p : Play} (found : s.playOf n = some id) (hp : s.play id = some p) :
    s.recordOf p = (s.slot n).record := by
  rw [State.recordOf, cue_of_playOf found hp]

theorem retrigger_restart {s : State} {p : Play} (policy : (s.recordOf p).policy = .restart) (id : Nat) (source : Source)
    (priority : Nat) : s.retrigger id p source priority = (s.restart id source priority, .ok id) := by
  rw [State.retrigger, policy]

theorem retrigger_queue {s : State} {p : Play} (policy : (s.recordOf p).policy = .queue) (id : Nat) (source : Source)
    (priority : Nat) : s.retrigger id p source priority = (s.setPlay id (some { p with pendingRestart := true }), .ok id) := by
  rw [State.retrigger, policy]

theorem retrigger_ignore {s : State} {p : Play} (policy : (s.recordOf p).policy = .ignore) (id : Nat) (source : Source)
    (priority : Nat) : s.retrigger id p source priority = (s, .ignored id) := by
  rw [State.retrigger, policy]

/-- A trigger of a cue with an ordinary play goes to the policy of the cue. -/
theorem triggerFrom4_ordinary {s : State} {n id : Nat} {p : Play} (held : (s.slot n).status = .held)
    (found : s.playOf n = some id) (hp : s.play id = some p) (ordinary : p.source ≠ .fallback) (source : Source)
    (override : Option Nat) : s.triggerFrom4 n source override =
      s.retrigger id p source (override.getD (s.slot n).record.priority) := by
  rw [triggerFrom4_held held, triggerFrom6_found found hp, if_neg ordinary]

/-! ## What a trigger of a cue without a play makes (02 R34) -/

/-- `id` is the lowest of 1..23 that holds no play once the plays of `marks` have left. -/
structure LowestAfter (s : State) (marks : List Nat) (id : Nat) : Prop where
  range : 1 ≤ id ∧ id ≤ 23
  free : s.play id = none ∨ id ∈ marks
  below : ∀ j, 1 ≤ j → j < id → j ∉ marks ∧ s.play j ≠ none

theorem lowestAfter_of_evictAll {s : State} {n id : Nat} {marks : List Nat}
    (lowest : (s.evictAll n marks).lowestFreeId = some id) : LowestAfter s marks id := by
  obtain ⟨free, range, below⟩ := lowestFreeId_iff.mp lowest
  rw [play_evictAll, ite_eq_left_iff] at free
  refine ⟨range, ?_, fun j low under => ?_⟩
  · by_cases marked : id ∈ marks
    · exact .inr marked
    · exact .inl (free marked)
  · have taken := below j low under
    rw [play_evictAll, ne_eq, ite_eq_left_iff, Classical.not_imp] at taken
    exact taken

/-- With room and an admitting check, the lowest id left is filled. -/
theorem admitPlay_made {s : State} (kept : EngineKept s) (room : s.ordinaryTotal < 23) {n priority : Nat} {marks : List Nat}
    (check : s.admissionCheck (s.slot n).record.channelNumbers priority = .admits marks) (source : Source) :
    ∃ id, LowestAfter s marks id ∧
      s.admitPlay n source priority = ((s.evictAll n marks).fillRecord id n source priority, .ok id) := by
  obtain ⟨id, lowest⟩ := lowestFreeId_after kept room n marks
  refine ⟨id, lowestAfter_of_evictAll lowest, (if_neg (Nat.not_le.mpr room)).trans ?_⟩
  rw [check]
  dsimp only
  rw [lowest]

theorem playFrame_admitted (s : State) (n id : Nat) (marks : List Nat) (source : Source) (priority : Nat) :
    PlayFrame s ((s.evictAll n marks).fillRecord id n source priority) :=
  (playFrame_evictAll s n marks).trans (playFrame_fillRecord _ _ _ _ _)

/-! ## The TRIGGER request -/

theorem source_of_origin (o : Origin) : o.source = if o = .servicePort then .servicePort else .buildingLink := by
  cases o <;> rfl

/-- A trigger that acts is answered with the play's id, and the outputs follow. -/
theorem trigger_acted {via : Via} {payload : List Byte} {s t v : State} {o : Origin} {n id : Nat} {override : Option Nat}
    (taken : Taken s .other via t o) (operands : readTrigger payload = some (n, override))
    (acted : t.triggerFrom4 n (if o = .servicePort then .servicePort else .buildingLink) override = (v, .ok id)) :
    exec (.trigger via payload) s = replied v.drive .ok [byte id] o := by
  refine request_replied taken ?_
  rw [← source_of_origin] at acted
  rw [State.triggerBlock, operands, readThen_some, State.triggerRequest, acted]
  cases o <;> rfl

theorem trigger_ignored {via : Via} {payload : List Byte} {s t : State} {o : Origin} {n id : Nat} {override : Option Nat}
    (taken : Taken s .other via t o) (operands : readTrigger payload = some (n, override))
    (ignored : t.triggerFrom4 n o.source override = (t, .ignored id)) :
    exec (.trigger via payload) s = replied t .ignored [byte id] o := by
  refine request_replied taken ?_
  rw [State.triggerBlock, operands, readThen_some, State.triggerRequest, ignored]
  cases o <;> rfl

/-- Settles O17: the policy of the cue, case by case. -/
theorem retriggersFollowThePolicy : Obligations.RetriggersFollowThePolicy := by
  intro via payload s t o n id override p taken operands held found hp ordinary
  have acts := triggerFrom4_ordinary held found hp ordinary
  rw [← recordOf_of_playOf found hp] at acts ⊢
  refine ⟨fun restart => ?restart, fun queue => ?queue, fun ignore => ?ignore⟩
  case restart =>
    have frame := playFrame_restart t id (if o = .servicePort then .servicePort else .buildingLink)
      (override.getD (t.recordOf p).priority)
    exact ⟨_, trigger_acted taken operands ((acts _ _).trans (retrigger_restart restart _ _ _)), playSide_drive frame,
      sameEvents_restart hp _ _, follows_drive frame, others_restart hp _ _, restarted_restart hp _ _⟩
  case queue =>
    have frame := playFrame_setPlay t id (some { p with pendingRestart := true })
    exact ⟨_, trigger_acted taken operands ((acts _ _).trans (retrigger_queue queue _ _ _)), playSide_drive frame,
      ⟨rfl, rfl, rfl⟩, follows_drive frame, others_setPlay t id _, setPlay_written hp _, rfl, rfl⟩
  case ignore =>
    exact trigger_ignored taken operands ((acts _ _).trans (retrigger_ignore ignore _ _ _))

/-- Settles O18: the admission of the new play, read back record by record and list by list. -/
theorem admittedTriggersMakeAPlay : Obligations.AdmittedTriggersMakeAPlay := by
  refine ⟨place_spec, ?_⟩
  intro via payload s t o n override marks r priority taken operands held absent room kept check plays nodup
  obtain ⟨id, lowest, admitted⟩ := admitPlay_made ((fallbackKept_iff t).mp kept).1 room check
    (if o = .servicePort then .servicePort else .buildingLink)
  have frame := playFrame_admitted t n id marks (if o = .servicePort then .servicePort else .buildingLink) priority
  obtain ⟨made, others, claims, evicted⟩ := playMade_admitted absent (lowest.range.imp_right fun h => by omega) plays nodup
    (if o = .servicePort then .servicePort else .buildingLink) priority
  refine ⟨id, _, trigger_acted taken operands ?_, playSide_drive frame, follows_drive frame, lowest.range.1, lowest.range.2,
    lowest.free, lowest.below, made, fun e he other => ?_, fun j hj other => ?_, claims, evicted⟩
  · rw [triggerFrom4_held held, triggerFrom6_absent absent]
    exact admitted
  · exact (others e other).trans (if_pos he)
  · exact (others j other).trans (if_neg hj)

/-! ## The RELEASE request -/

theorem any_fallback_iff {s : State} {id : Nat} {p : Play} (hp : s.play id = some p) :
    ((s.play id).any (·.source == .fallback)) = true ↔ p.source = .fallback := by
  simp [hp]

/-- Settles O20: the checks of the block, and what the release request does to the play. -/
theorem releaseReleasesThePlayOfACue : Obligations.ReleaseReleasesThePlayOfACue := by
  refine fun via payload s t o taken => ⟨fun malformed => ?malformed, fun n operands => ⟨fun absent => ?absent,
    fun id p found hp => ⟨fun fallback => ?guarded, fun ordinary => ?released⟩⟩⟩
  case malformed => exact request_replied taken (by rw [State.releaseBlock, malformed]; rfl)
  case absent =>
    exact request_replied taken (by rw [State.releaseBlock, operands, readThen_some, State.releaseRequest, absent]; rfl)
  case guarded =>
    refine request_replied taken ?_
    rw [State.releaseBlock, operands, readThen_some, State.releaseRequest, found]
    exact if_pos ((any_fallback_iff hp).mpr fallback)
  case released =>
    have frame := playFrame_requestRelease t id
    obtain ⟨others, events, before, fading⟩ := requestRelease_spec hp
    refine ⟨_, request_replied taken ?_, playSide_drive frame, events, follows_drive frame, others, before, fading⟩
    rw [State.releaseBlock, operands, readThen_some, State.releaseRequest, found]
    exact if_neg (mt (any_fallback_iff hp).mp ordinary)

end Sys2Proof.Machine
end

section
/-! The expiries of a play's timer: delay, ramp step, hold and fade step. -/

namespace Sys2Proof.Machine

/-! ## Which expiries come (02 R36, R58) -/

/-- A frozen play, and one whose timer has time left, takes no expiry (log 1). -/
theorem expiries_quiet {s : State} {id : Nat} {p : Play} (hp : s.play id = some p) (quiet : s.frozen = true ∨ p.timer ≠ 0) :
    exec (.delayExpiry id) s = .next s ∧ exec (.rampStepExpiry id) s = .next s ∧ exec (.holdExpiry id) s = .next s ∧
      exec (.fadeStepExpiry id) s = .next s := by
  have none := expiring_none s id p hp quiet
  refine ⟨congrArg done ?_, congrArg done ?_, congrArg done ?_, congrArg done ?_⟩
  · rw [State.delayExpiry, none]
  · rw [State.rampStepExpiry, none]
  · rw [State.holdExpiry, none]
  · rw [State.fadeStepExpiry, none]

section
variable {s : State} {id : Nat} {p : Play} (hp : s.play id = some p) (thawed : s.frozen = false) (zero : p.timer = 0)
include hp thawed zero

theorem delayExpiry_comes (phase : p.phase = .delay) : exec (.delayExpiry id) s = .next (s.delayEnd id p).drive := by
  refine congrArg done ?_
  rw [State.delayExpiry, (expiring_iff s id p).mpr ⟨thawed, hp, zero⟩]
  exact if_pos phase

theorem rampStepExpiry_comes (phase : p.phase = .ramp) : exec (.rampStepExpiry id) s = .next (s.rampStep id p).drive := by
  refine congrArg done ?_
  rw [State.rampStepExpiry, (expiring_iff s id p).mpr ⟨thawed, hp, zero⟩]
  exact if_pos phase

theorem holdExpiry_comes (phase : p.phase = .hold) : exec (.holdExpiry id) s = .next (s.endAction id p).drive := by
  refine congrArg done ?_
  rw [State.holdExpiry, (expiring_iff s id p).mpr ⟨thawed, hp, zero⟩]
  exact if_pos phase

theorem fadeStepExpiry_comes {origins : List OriginLevel} {k : Nat} (phase : p.phase = .fadeout origins k) :
    exec (.fadeStepExpiry id) s = .next (s.fadeStep id p origins k).drive := by
  refine congrArg done ?_
  rw [State.fadeStepExpiry, (expiring_iff s id p).mpr ⟨thawed, hp, zero⟩]
  dsimp only
  rw [phase]

end

/-- Settles O39: the delay's end rewrites the play, and a fade step counts or ends the fade. -/
theorem delaysAndFadeStepsExpire : Obligations.DelaysAndFadeStepsExpire := by
  refine fun s id p hp => ⟨expiries_quiet hp, fun thawed zero phase => ?delay, fun origins k thawed zero phase => ?fade⟩
  case delay =>
    have frame : PlayFrame s (s.delayEnd id p) := playFrame_setPlay s id _
    exact ⟨_, delayExpiry_comes hp thawed zero phase, playSide_drive frame, ⟨rfl, rfl, rfl⟩, follows_drive frame,
      others_setPlay s id _, rfl, rfl, setPlay_written hp _⟩
  case fade =>
    refine ⟨_, fadeStepExpiry_comes hp thawed zero phase, playSide_drive (playFrame_fadeStep s id p origins k), ?_,
      follows_drive (playFrame_fadeStep s id p origins k), ?_⟩
    all_goals unfold State.fadeStep
    all_goals dsimp only
    · split
      · exact sameEvents_endOrRestart hp
      · exact ⟨rfl, rfl, rfl⟩
    · split
      · next last =>
        refine ⟨others_endOrRestart hp, fun more => absurd last more, fun _ pending => ?_, fun _ pending => ?_⟩
        · rw [endOrRestart_of_play hp, if_pos pending]
          exact restarted_restart hp _ _
        · rw [endOrRestart_of_play hp, if_neg (by rw [pending]; exact nofun)]
          exact ended_endPlay hp
      · next more =>
        exact ⟨others_setPlay s id _, fun _ => ⟨rfl, rfl, setPlay_written hp _⟩, fun last => absurd last more,
          fun last => absurd last more⟩

/-! ## The play at the end of its profile -/

theorem put1_self {α : Type} {k n : Nat} {v : Vector α k} {x : α} (h : at1 v n = some x) : put1 v n x = v := by
  cases n with
  | zero => rfl
  | succ i =>
    obtain ⟨inside, rfl⟩ := Vector.getElem?_eq_some_iff.mp h
    refine Vector.ext fun j hj => ?_
    show (v.setIfInBounds i v[i])[j] = v[j]
    rw [Vector.getElem_setIfInBounds]
    split
    · next same => subst same; rfl
    · rfl

theorem setPlay_self {s : State} {id : Nat} {p : Play} (hp : s.play id = some p) : s.setPlay id (some p) = s := by
  rw [State.setPlay, put1_self (Option.join_eq_some_iff.mp hp)]

/-- What a release makes of a play that was rewritten just before. -/
theorem released_rewritten {s : State} {id : Nat} {p q : Play} (hp : s.play id = some p) (before : q.phase.beforeFade = true) :
    OtherPlaysStand s ((s.setPlay id (some q)).releasePlay id) id ∧
      SameEvents s ((s.setPlay id (some q)).releasePlay id) ∧ Released s ((s.setPlay id (some q)).releasePlay id) id q := by
  have written := setPlay_written hp (some q)
  refine ⟨fun j other => ?_, sameEvents_releasePlay written, released_releasePlay written before⟩
  rw [others_releasePlay written j other, others_setPlay s id _ j other]

theorem others_setPlay_again (s : State) (id : Nat) (x y : Option Play) :
    OtherPlaysStand s ((s.setPlay id x).setPlay id y) id := fun j other => by
  rw [others_setPlay (s.setPlay id x) id y j other, others_setPlay s id x j other]

theorem setPlay_written_again {s : State} {id : Nat} {p q : Play} (hp : s.play id = some p) (x : Option Play) :
    ((s.setPlay id (some q)).setPlay id x).play id = x := setPlay_written (setPlay_written hp (some q)) x

/-- The end action of a play that was rewritten just before, in a RETIRING slot (02 R61). -/
theorem endAction_retiring {s : State} {q : Play} (retiring : (s.slot q.cue).status = .retiring) (id : Nat) :
    (s.setPlay id (some q)).endAction id q = (s.setPlay id (some q)).releasePlay id := if_pos retiring

/-- The end action of a play that was rewritten just before, in any other slot (section 2.4). -/
theorem endAction_steady {s : State} {q : Play} (steady : (s.slot q.cue).status ≠ .retiring) (id : Nat) :
    (s.setPlay id (some q)).endAction id q =
      match (s.recordOf q).endAction with
      | .sustain => (s.setPlay id (some q)).setPlay id (some { q with phase := .sustain, timer := 0 })
      | .release => (s.setPlay id (some q)).releasePlay id
      | .repeating _ => (s.setPlay id (some q)).repeatPlay id q
      | .chain t => (s.setPlay id (some q)).chain id q t := if_neg steady

/-- The play with its step at `step` (02 R39). -/
def Play.reached (p : Play) (step : Byte) : Play := { p with step := step }

/-- Expiry `i` ends the profile of the play `p` in record `id`, which then stands as `q`: HOLD has run out, or RAMP reaches the
stop step and no HOLD follows (02 R40). -/
def EndsProfile (s : State) (id : Nat) (p q : Play) (i : Instr) : Prop :=
  i = .holdExpiry id ∧ p.phase = .hold ∧ q = p ∨
    i = .rampStepExpiry id ∧ p.phase = .ramp ∧ (s.recordOf p).hold.count = 0 ∧
      stepToward p.step (s.recordOf p).stopStep = (s.recordOf p).stopStep ∧ q = { p with step := (s.recordOf p).stopStep }

theorem endsProfile_quiet {s : State} {id : Nat} {p q : Play} {i : Instr} (ends : EndsProfile s id p q i)
    (hp : s.play id = some p) (quiet : p.timer ≠ 0) : exec i s = .next s := by
  obtain ⟨-, ramp, hold, -⟩ := expiries_quiet hp (.inr quiet)
  rcases ends with ⟨rfl, -⟩ | ⟨rfl, -⟩
  · exact hold
  · exact ramp

theorem endsProfile_step {s : State} {id : Nat} {p q : Play} {i : Instr} (ends : EndsProfile s id p q i) :
    (∃ step, q = p.reached step) ∧ p.phase.beforeFade = true := by
  rcases ends with ⟨-, phase, rfl⟩ | ⟨-, phase, -, -, rfl⟩
  · exact ⟨⟨q.step, rfl⟩, by rw [phase]; rfl⟩
  · exact ⟨⟨_, rfl⟩, by rw [phase]; rfl⟩

/-- At a ramp step that reaches the stop step the ramp ends. -/
theorem rampStep_last {s : State} {p : Play} (last : stepToward p.step (s.recordOf p).stopStep = (s.recordOf p).stopStep)
    (id : Nat) : s.rampStep id p =
      (s.setPlay id (some (p.reached (s.recordOf p).stopStep))).endRamp id (p.reached (s.recordOf p).stopStep) := by
  unfold State.rampStep
  dsimp only
  rw [last, if_pos rfl]
  rfl

theorem endsProfile_comes {s : State} {id : Nat} {p q : Play} {i : Instr} (ends : EndsProfile s id p q i)
    (hp : s.play id = some p) (thawed : s.frozen = false) (zero : p.timer = 0) :
    exec i s = .next ((s.setPlay id (some q)).endAction id q).drive := by
  rcases ends with ⟨rfl, phase, rfl⟩ | ⟨rfl, phase, short, last, rfl⟩
  · rw [holdExpiry_comes hp thawed zero phase, setPlay_self hp]
  · rw [rampStepExpiry_comes hp thawed zero phase, rampStep_last last]
    exact congrArg (fun u : State => Host.Outcome.next u.drive) (if_pos (.inr short))

/-- Settles O36: the step short of the stop step, and each end of the ramp. -/
theorem rampStepExpiryMovesOneStepToTheStopStep : Obligations.RampStepExpiryMovesOneStepToTheStopStep := by
  refine fun s id p hp phase thawed => ⟨fun quiet => (expiries_quiet hp (.inr quiet)).2.1, fun zero => ?_⟩
  have frame := playFrame_rampStep s id p
  refine ⟨_, rampStepExpiry_comes hp thawed zero phase, playSide_drive frame, follows_drive frame, fun more => ?short,
    fun last action steady => ?sustain, fun last action retiring => ?release, fun last action long => ?hold⟩
  case short =>
    have written : s.rampStep id p = s.setPlay id (some { p with
        step := stepToward p.step (s.recordOf p).stopStep, timer := (s.recordOf p).stepPeriod.toNat }) := if_neg more
    rw [written]
    exact ⟨others_setPlay s id _, ⟨rfl, rfl, rfl⟩, rfl, rfl, setPlay_written hp _⟩
  all_goals
    have step : stepToward p.step (s.recordOf p).stopStep = (s.recordOf p).stopStep := last
    rw [rampStep_last step, last]
    generalize hq : p.reached (s.recordOf p).stopStep = q
    have record : s.recordOf q = s.recordOf p := by rw [← hq]; rfl
    have play : { p with step := (s.recordOf p).stopStep } = q := hq
  case sustain =>
    have written : (s.setPlay id (some q)).endRamp id q =
        (s.setPlay id (some q)).setPlay id (some { q with phase := .sustain, timer := 0 }) := by
      rw [← record] at action
      refine (if_pos (.inl action)).trans ((endAction_steady (by rw [← hq]; exact steady) id).trans ?_)
      rw [action]
    rw [written, ← hq]
    exact ⟨others_setPlay_again s id _ _, ⟨rfl, rfl, rfl⟩, rfl, rfl, setPlay_written_again hp _⟩
  case release =>
    have written : (s.setPlay id (some q)).endRamp id q = (s.setPlay id (some q)).releasePlay id := by
      rw [← record] at action
      exact (if_pos (.inl action)).trans (endAction_retiring (by rw [← hq]; exact retiring) id)
    rw [written, play]
    exact released_rewritten hp (by rw [← hq]; show p.phase.beforeFade = true; rw [phase]; rfl)
  case hold =>
    have written : (s.setPlay id (some q)).endRamp id q = (s.setPlay id (some q)).setPlay id
        (some { q with phase := .hold, timer := (s.recordOf q).hold.ms }) := by
      rw [← record] at action long
      exact if_neg (not_or.mpr ⟨action, long⟩)
    rw [written, ← hq]
    exact ⟨others_setPlay_again s id _ _, ⟨rfl, rfl, rfl⟩, rfl, rfl, setPlay_written_again hp _⟩

/-- Settles O37: the end action read case by case. -/
theorem endActionsReleaseOrRepeat : Obligations.EndActionsReleaseOrRepeat := by
  intro s id p q i hp thawed ends action
  refine ⟨endsProfile_quiet ends hp, fun zero => ?_⟩
  have frame : PlayFrame s ((s.setPlay id (some q)).endAction id q) :=
    (playFrame_setPlay s id _).trans (playFrame_endAction _ id q)
  have comes := endsProfile_comes ends hp thawed zero
  obtain ⟨⟨step, hq⟩, before⟩ := endsProfile_step ends
  refine ⟨_, comes, playSide_drive frame, ?_⟩
  obtain ⟨others, events, released⟩ := released_rewritten (q := q) hp (by rw [hq]; exact before)
  by_cases retiring : (s.slot p.cue).status = .retiring
  · rw [endAction_retiring (by rw [hq]; exact retiring)] at frame ⊢
    rw [if_pos retiring]
    exact ⟨events, follows_drive frame, others, released⟩
  · rw [endAction_steady (by rw [hq]; exact retiring)] at frame ⊢
    rw [if_neg retiring]
    have record : s.recordOf q = s.recordOf p := by rw [hq]; rfl
    have repeats : q.repeats = p.repeats := by rw [hq]; rfl
    rw [← record] at action ⊢
    rw [← repeats]
    rcases action with ⟨n, action⟩ | action | none
    · rw [action] at frame ⊢
      dsimp only at frame ⊢
      unfold State.repeatPlay at frame ⊢
      have rewound (left : Repeats) := setPlay_written_again (q := q) hp (some { q with
        phase := .ramp, step := (s.recordOf q).startStep, timer := (s.recordOf q).stepPeriod.toNat, repeats := left })
      rcases left : q.repeats with ⟨_ | n⟩ | _
      all_goals rw [left] at frame
      · exact ⟨events, follows_drive frame, others, released⟩
      · exact ⟨⟨rfl, rfl, rfl⟩, follows_drive frame, others_setPlay_again s id _ _, rfl, rfl, rewound (.times n)⟩
      · exact ⟨⟨rfl, rfl, rfl⟩, follows_drive frame, others_setPlay_again s id _ _, rfl, rfl, rewound .forever⟩
    · rw [action] at frame ⊢
      exact ⟨events, follows_drive frame, others, released⟩
    · exact absurd none retiring

end Sys2Proof.Machine
end

section
/-! Retires that are accepted, and the exit from fallback. -/

namespace Sys2Proof.Machine

/-! ## RETIRE_CUE (01 R23, R24, R25) -/

/-- A release touches the slot of its play alone. -/
theorem slot_of_released {t u : State} {id m : Nat} {p : Play} (released : Released t u id p) (other : m ≠ p.cue) :
    u.slot m = t.slot m := by
  unfold Released at released
  dsimp only at released
  split_ifs at released with long pending
  · obtain ⟨-, -, slots⟩ := released
    rw [State.slot, State.slot, slots]
  · obtain ⟨-, -, slots⟩ := released
    rw [State.slot, State.slot, slots]
  · obtain ⟨-, -, slots⟩ := released
    exact (slots m).trans (if_neg fun both => other both.1)

/-- The play of a slot that has just become RETIRING, as it runs down: in SUSTAIN it is released. -/
theorem runDown_eq {s : State} {id : Nat} {p : Play} (hp : s.play id = some p) : s.runDown id =
    if p.phase = .sustain then (s.clearPending id).releasePlay id
    else s.setPlay id (some { p with pendingRestart := false }) := by
  have cleared : (s.clearPending id).play id = some { p with pendingRestart := false } := by
    rw [clearPending_of_play hp]
    exact setPlay_written hp _
  unfold State.runDown
  dsimp only
  rw [cleared]
  dsimp only
  split
  · rfl
  · exact clearPending_of_play hp

theorem retireNow_absent {s : State} {n : Nat} (absent : s.playOf n = none) :
    s.retireNow n = s.setSlot n (s.slot n).freed := by
  rw [State.retireNow, absent]

theorem retireGracefully_absent {s : State} {n : Nat} (absent : s.playOf n = none) :
    s.retireGracefully n = s.setSlot n (s.slot n).freed := by
  rw [State.retireGracefully, absent]

theorem retireGracefully_found {s : State} {n id : Nat} (found : s.playOf n = some id) :
    s.retireGracefully n = (s.setSlot n { s.slot n with status := .retiring }).runDown id := by
  rw [State.retireGracefully, found]

/-- An immediate retire of a HELD cue ends its play and frees its slot. -/
theorem retireNow_found {s : State} {n id : Nat} {p : Play} (found : s.playOf n = some id) (hp : s.play id = some p)
    (held : (s.slot n).status = .held) : s.retireNow n = (s.endPlay id).setSlot n (s.slot n).freed := by
  have kept : (s.endPlay id).slot n = s.slot n := by
    rw [slot_endPlay hp, if_neg fun both => by rw [held] at both; exact nomatch both.2]
  rw [State.retireNow, found]
  dsimp only
  rw [kept]

/-- An immediate retire of a HELD cue with a play. -/
theorem retireNow_spec {s : State} {n id : Nat} {p : Play} (found : s.playOf n = some id) (hp : s.play id = some p)
    (held : (s.slot n).status = .held) : SameEvents s (s.retireNow n) ∧ OtherPlaysStand s (s.retireNow n) id ∧
      (∀ m, m ≠ n → (s.retireNow n).slot m = s.slot m) ∧ (s.retireNow n).slot n = (s.slot n).freed ∧
      (s.retireNow n).play id = none ∧ ∀ c, (s.retireNow n).claimList c = (s.claimList c).filter (· != id) := by
  have range := in_range_of_status (s := s) (n := n) (by rw [held]; exact nofun)
  rw [retireNow_found found hp held]
  refine ⟨sameEvents_endPlay s id, others_endPlay s id, fun m hm => ?_, slot_setSlot_same _ n _ range, play_endPlay s id,
    claimList_endPlay hp⟩
  rw [slot_setSlot_other _ n m _ hm, slot_endPlay hp, cue_of_playOf found hp, if_neg fun both => hm both.1]

/-- A graceful retire of a HELD cue with a play. -/
theorem retireGracefully_spec {s : State} {n id : Nat} {p : Play} (found : s.playOf n = some id) (hp : s.play id = some p)
    (held : (s.slot n).status = .held) : SameEvents s (s.retireGracefully n) ∧ OtherPlaysStand s (s.retireGracefully n) id ∧
      (∀ m, m ≠ n → (s.retireGracefully n).slot m = s.slot m) ∧
      (p.phase ≠ .sustain → (s.retireGracefully n).slot n = { s.slot n with status := .retiring } ∧
        (s.retireGracefully n).play id = some { p with pendingRestart := false } ∧
        (s.retireGracefully n).claims = s.claims) ∧
      (p.phase = .sustain → Released (s.setSlot n { s.slot n with status := .retiring }) (s.retireGracefully n) id
        { p with pendingRestart := false }) := by
  have range := in_range_of_status (s := s) (n := n) (by rw [held]; exact nofun)
  have cue := cue_of_playOf found hp
  rw [retireGracefully_found found]
  generalize hm : s.setSlot n { s.slot n with status := .retiring } = marked
  have events : SameEvents s marked := by rw [← hm]; exact ⟨rfl, rfl, rfl⟩
  have plays (j : Nat) : marked.play j = s.play j := by rw [← hm]; rfl
  have claims : marked.claims = s.claims := by rw [← hm]; rfl
  have slots (m : Nat) (other : m ≠ n) : marked.slot m = s.slot m := by rw [← hm]; exact slot_setSlot_other s n m _ other
  have slot : marked.slot n = { s.slot n with status := .retiring } := by rw [← hm]; exact slot_setSlot_same s n _ range
  have hp' : marked.play id = some p := (plays id).trans hp
  rw [runDown_eq hp']
  split
  · next sustain =>
    have released : Released marked (marked.requestRelease id) id { p with pendingRestart := false } :=
      (requestRelease_spec hp').2.2.1 (by rw [sustain]; rfl)
    refine ⟨events.trans (requestRelease_spec hp').2.1, fun j other => ?_, fun m other => ?_, fun moving => absurd sustain moving,
      fun _ => released⟩
    · exact ((requestRelease_spec hp').1 j other).trans (plays j)
    · exact (slot_of_released released (by rw [cue]; exact other)).trans (slots m other)
  · next moving =>
    refine ⟨events, fun j other => ?_, slots, fun _ => ⟨slot, setPlay_written hp' _, claims⟩, fun sustain => absurd sustain moving⟩
    exact (others_setPlay marked id _ j other).trans (plays j)

/-- Settles O14: the slot freed at once, or the play ended, run down or released. -/
theorem acceptedRetiresFreeTheSlotOrLetItRunDown : Obligations.AcceptedRetiresFreeTheSlotOrLetItRunDown := by
  intro via s t o payload n graceful taken idle operands held other unrun
  have unguarded : ¬t.cueProtected n = true := by
    rw [cueProtected_iff]
    rintro (configured | ⟨p, hp, fallback, same⟩)
    · exact other configured
    · exact unrun p hp fallback same
  have answer : exec (.retireCue via payload) s =
      replied (if graceful then t.retireGracefully n else t.retireNow n).drive .ok [] o := by
    refine retireCue_taken taken idle operands ?_
    rw [State.retireCue, held]
    exact if_neg unguarded
  have frame : PlayFrame t (if graceful then t.retireGracefully n else t.retireNow n) := by
    split
    · exact (playActs_retireGracefully t n).frame
    · exact (playActs_retireNow t n).frame
  refine ⟨_, answer, playSide_drive frame, ?_⟩
  cases found : t.playOf n with
  | none =>
    have effect : (if graceful then t.retireGracefully n else t.retireNow n) = t.setSlot n (t.slot n).freed := by
      rw [retireGracefully_absent found, retireNow_absent found, ite_self]
    rw [effect] at frame ⊢
    refine ⟨⟨rfl, rfl, rfl⟩, follows_drive frame, fun m hm => slot_setSlot_other t n m _ hm,
      fun _ => ⟨slot_setSlot_same t n _ ?_, rfl, rfl⟩, fun _ _ none => nomatch none⟩
    exact in_range_of_status (by rw [held]; exact nofun)
  | some id =>
    obtain ⟨-, p, hp, -⟩ := playOf_some found
    cases graceful with
    | false =>
      obtain ⟨events, others, slots, slot, gone, claims⟩ := retireNow_spec found hp held
      refine ⟨events, follows_drive frame, slots, nofun, fun j q hj hq => ?_⟩
      obtain rfl := Option.some.inj hj
      exact ⟨others, fun _ => ⟨slot, gone, claims⟩, nofun, nofun⟩
    | true =>
      obtain ⟨events, others, slots, moving, sustain⟩ := retireGracefully_spec found hp held
      refine ⟨events, follows_drive frame, slots, nofun, fun j q hj hq => ?_⟩
      obtain rfl := Option.some.inj hj
      obtain rfl := Option.some.inj (hp.symm.trans hq)
      exact ⟨others, nofun, fun _ => moving, fun _ => sustain⟩

/-! ## FALLBACK_EXIT (07 R158, R159) -/

theorem startWatchdog_running {s : State} (running : s.running = true) (off : s.fallbackOn = false) : s.startWatchdog =
    { s with watchdog := if s.config.watchdogPeriod ≠ 0 then some s.config.watchdogMicros else s.watchdog } := by
  unfold State.startWatchdog
  by_cases period : s.config.watchdogPeriod = 0
  · rw [if_neg fun runs => ((watchdogRuns_iff s).mp runs).2.2 period, if_neg (not_not.mpr period)]
  · rw [if_pos ((watchdogRuns_iff s).mpr ⟨running, off, period⟩), if_pos period]

/-- The release of the fallback play, for which nothing waits: it holds no pending restart to clear (07 R159). -/
theorem releaseFallback_spec (s : State) : SameEvents s (s.releasePlay 24) ∧ OtherPlaysStand s (s.releasePlay 24) 24 ∧
    (s.play 24 = none → s.releasePlay 24 = s) ∧
    ∀ p, s.play 24 = some p → (p.phase.beforeFade = true → Released s (s.releasePlay 24) 24 p) ∧
      (p.phase.beforeFade = false → s.releasePlay 24 = s) := by
  cases hp : s.play 24 with
  | none =>
    have still : s.releasePlay 24 = s := by rw [State.releasePlay, hp]
    rw [still]
    exact ⟨⟨rfl, rfl, rfl⟩, fun _ _ => rfl, fun _ => rfl, nofun⟩
  | some p =>
    refine ⟨sameEvents_releasePlay hp, others_releasePlay hp, nofun, fun q hq => ?_⟩
    obtain rfl := Option.some.inj hq
    exact ⟨released_releasePlay hp, releasePlay_of_fade hp⟩

/-- Settles O30: the checks of the block, and the release and the watchdog behind them. -/
theorem fallbackExitNeedsItsToken : Obligations.FallbackExitNeedsItsToken := by
  refine fun via s t o taken => ⟨fun payload malformed => ?malformed, fun token => ⟨fun off => ?off, fun on other => ?token,
    fun on same => ?exit⟩⟩
  case malformed => exact request_replied taken (by rw [State.fallbackExitBlock, malformed]; rfl)
  case off =>
    refine request_replied taken ?_
    rw [State.fallbackExitBlock, readToken, readThen_some, State.fallbackExit, off]
    rfl
  case token =>
    refine request_replied taken ?_
    rw [State.fallbackExitBlock, readToken, readThen_some, State.fallbackExit, on]
    exact if_pos other
  case exit =>
    have frame := playFrame_releasePlay { t with fallbackOn := false } 24
    obtain ⟨events, others, empty, found⟩ := releaseFallback_spec { t with fallbackOn := false }
    generalize hv : State.releasePlay { t with fallbackOn := false } 24 = v at *
    have exits : t.exitFallback = { v with
        watchdog := if t.config.watchdogPeriod ≠ 0 then some t.config.watchdogMicros else t.watchdog } := by
      have awake : t.running = true := running_of_taken taken
      have running : v.running = true := frame.running.trans awake
      rw [exitFallback_eq, hv, startWatchdog_running running frame.fallbackOn, frame.config, frame.watchdog]
    have answer : exec (.fallbackExit via [token]) s = replied t.exitFallback.drive .ok [] o := by
      refine request_replied taken ?_
      rw [State.fallbackExitBlock, readToken, readThen_some, State.fallbackExit, on]
      exact if_neg (not_not.mpr same)
    rw [exits] at answer
    refine ⟨_, answer, ?_, events, channelsFollow_drive frame.channels, rfl, others, fun none => ?_, fun p hp =>
      ⟨(found p hp).1, fun fading => ?_⟩⟩
    · unfold PlaySide
      rw [drive_frame, frame]
    · rw [empty none]; exact ⟨none, rfl, rfl⟩
    · rw [(found p hp).2 fading]; exact ⟨hp, rfl, rfl⟩

end Sys2Proof.Machine
end

section
/-! RELEASE_ALL: the releases of a list of plays, one after the other (02 R57). -/

namespace Sys2Proof.Machine

/-- A property of the releases done so far, carried along a list of ids that differ. -/
theorem foldl_requestRelease {P : List Nat → State → Prop} {good : Nat → Prop}
    (step : ∀ done m a, P done m → a ∉ done → good a → P (done ++ [a]) (m.requestRelease a)) :
    ∀ (l done : List Nat) (m : State), P done m → (done ++ l).Nodup → (∀ a ∈ l, good a) →
      P (done ++ l) (l.foldl State.requestRelease m)
  | [], done, m, start, _, _ => by rw [List.append_nil]; exact start
  | a :: l, done, m, start, nodup, ok => by
    have fresh : a ∉ done := fun old => (List.nodup_append.mp nodup).2.2 a old a (List.mem_cons_self ..) rfl
    rw [List.append_cons] at nodup ⊢
    exact foldl_requestRelease step l _ _ (step done m a start fresh (ok a (List.mem_cons_self ..))) nodup
      fun b hb => ok b (List.mem_cons_of_mem _ hb)

/-! ## What becomes of one play -/

/-- What a release request leaves of the play `x`, by the record it reads in `t`: nothing, a fade, or a fade that goes on. -/
def State.afterRelease (t : State) (x : Play) : Option Play :=
  if x.phase.beforeFade = false then some { x with pendingRestart := false }
  else if (t.recordOf x).releaseFade = 0 then none
  else some ({ x with pendingRestart := false }.toFadeout (t.recordOf x))

/-- The play of record `id` ends at once when it is released. -/
def State.endsAtOnce (t : State) (id : Nat) : Bool :=
  (t.play id).any fun x => x.phase.beforeFade && (t.recordOf x).releaseFade == 0

theorem endsAtOnce_of_play {t : State} {id : Nat} {x : Play} (hx : t.play id = some x) :
    t.endsAtOnce id = true ↔ x.phase.beforeFade = true ∧ (t.recordOf x).releaseFade = 0 := by
  simp [State.endsAtOnce, hx]

/-- A release request at a play that does not end at once: its record alone changes. -/
theorem requestRelease_stays {s : State} {id : Nat} {x : Play} (hx : s.play id = some x) (stays : ¬s.endsAtOnce id = true) :
    (s.requestRelease id).play id = s.afterRelease x ∧ (s.requestRelease id).claims = s.claims ∧
      (s.requestRelease id).slots = s.slots := by
  obtain ⟨-, -, released, fading⟩ := requestRelease_spec hx
  rw [endsAtOnce_of_play hx] at stays
  cases before : x.phase.beforeFade with
  | false =>
    rw [State.afterRelease, if_pos before]
    exact fading before
  | true =>
    have long : (s.recordOf x).releaseFade ≠ 0 := fun none => stays ⟨before, none⟩
    have effect := released before
    unfold Released at effect
    dsimp only at effect
    rw [if_pos (show (s.recordOf { x with pendingRestart := false }).releaseFade ≠ 0 from long)] at effect
    rw [State.afterRelease, if_neg (by rw [before]; exact nofun), if_neg long]
    exact effect

/-- A release request at a play that ends at once. -/
theorem requestRelease_ends {s : State} {id : Nat} {x : Play} (hx : s.play id = some x) (ends : s.endsAtOnce id = true) :
    Ended s (s.requestRelease id) id x ∧ s.afterRelease x = none := by
  obtain ⟨-, -, released, -⟩ := requestRelease_spec hx
  obtain ⟨before, instant⟩ := (endsAtOnce_of_play hx).mp ends
  have effect := released before
  unfold Released at effect
  dsimp only at effect
  rw [if_neg (not_not.mpr (show (s.recordOf { x with pendingRestart := false }).releaseFade = 0 from instant)),
    if_neg nofun] at effect
  refine ⟨effect, ?_⟩
  rw [State.afterRelease, if_neg (by rw [before]; exact nofun), if_pos instant]

theorem play_requestRelease {s : State} {id : Nat} {x : Play} (hx : s.play id = some x) :
    (s.requestRelease id).play id = s.afterRelease x := by
  by_cases ends : s.endsAtOnce id = true
  · obtain ⟨⟨gone, -⟩, after⟩ := requestRelease_ends hx ends
    rw [gone, after]
  · exact (requestRelease_stays hx ends).1

/-- What a release leaves fades, and waits for no restart. -/
theorem fades_of_afterRelease {t : State} {x y : Play} (h : t.afterRelease x = some y) :
    y.phase.beforeFade = false ∧ y.pendingRestart = false := by
  unfold State.afterRelease at h
  split_ifs at h with fading instant
  · obtain rfl := Option.some.inj h
    exact ⟨fading, rfl⟩
  · obtain rfl := Option.some.inj h
    exact ⟨rfl, rfl⟩

/-! ## What becomes of the plays of a list -/

/-- The plays of `done` have been released since `t`: each of them fades or is gone, and the others stand. -/
structure Fading (t : State) (done : List Nat) (m : State) : Prop where
  events : SameEvents t m
  others : ∀ id, id ∉ done → m.play id = t.play id
  fades : ∀ id ∈ done, ∀ y, m.play id = some y → y.phase.beforeFade = false ∧ y.pendingRestart = false

theorem fading_step {t : State} (done : List Nat) (m : State) (a : Nat) (h : Fading t done m) (fresh : a ∉ done)
    (present : (t.play a).isSome = true) : Fading t (done ++ [a]) (m.requestRelease a) := by
  obtain ⟨x, hx⟩ := Option.isSome_iff_exists.mp present
  have hx' : m.play a = some x := (h.others a fresh).trans hx
  obtain ⟨others, events, -, -⟩ := requestRelease_spec hx'
  refine ⟨h.events.trans events, fun id outside => ?_, fun id inside y hy => ?_⟩
  · simp only [List.mem_append, List.mem_singleton, not_or] at outside
    exact (others id outside.2).trans (h.others id outside.1)
  · by_cases here : id = a
    · subst here
      rw [play_requestRelease hx'] at hy
      exact fades_of_afterRelease hy
    · rw [others id here] at hy
      exact h.fades id ((List.mem_append.mp inside).resolve_right fun one => here (List.mem_singleton.mp one)) y hy

/-- The same with every record, claim and slot told, where no two plays have one cue. -/
structure ReleasedSoFar (t : State) (done : List Nat) (m : State) : Prop where
  others : ∀ id, id ∉ done → m.play id = t.play id
  plays : ∀ id ∈ done, ∀ x, t.play id = some x → m.play id = t.afterRelease x
  claims : ∀ c, m.claimList c = (t.claimList c).filter fun id => !(decide (id ∈ done) && t.endsAtOnce id)
  slots : ∀ n, m.slot n =
    if (t.slot n).status = .retiring ∧ (done.any fun id => t.endsAtOnce id && (t.play id).any (·.cue == n)) = true then
      (t.slot n).freed
    else t.slot n

theorem releasedSoFar_step {t : State} (unique : ∀ a b p q, t.play a = some p → t.play b = some q → p.cue = q.cue → a = b)
    (done : List Nat) (m : State) (a : Nat) (h : ReleasedSoFar t done m) (fresh : a ∉ done)
    (present : (t.play a).isSome = true) : ReleasedSoFar t (done ++ [a]) (m.requestRelease a) := by
  obtain ⟨x, hx⟩ := Option.isSome_iff_exists.mp present
  have hx' : m.play a = some x := (h.others a fresh).trans hx
  have otherCue : (done.any fun id => t.endsAtOnce id && (t.play id).any (·.cue == x.cue)) = false := by
    rw [List.any_eq_false]
    intro id hid both
    simp only [Bool.and_eq_true, Option.any_eq_true, beq_iff_eq] at both
    obtain ⟨-, y, hy, same⟩ := both
    exact fresh (unique id a y x hy hx same ▸ hid)
  have slot : m.slot x.cue = t.slot x.cue := by rw [h.slots, otherCue, if_neg fun both => nomatch both.2]
  have record : m.recordOf x = t.recordOf x := by rw [State.recordOf, slot]; rfl
  have after : m.afterRelease x = t.afterRelease x := by rw [State.afterRelease, record]; rfl
  have instant : m.endsAtOnce a = t.endsAtOnce a := by rw [State.endsAtOnce, State.endsAtOnce, hx, hx']; simp [record]
  obtain ⟨others, -, -, -⟩ := requestRelease_spec hx'
  have outside (id : Nat) (hid : id ∉ done ++ [a]) : id ≠ a ∧ id ∉ done := by simpa [and_comm] using hid
  have othersStand (id : Nat) (hid : id ∉ done ++ [a]) : (m.requestRelease a).play id = t.play id :=
    (others id (outside id hid).1).trans (h.others id (outside id hid).2)
  have playsReleased (id : Nat) (hid : id ∈ done ++ [a]) (y : Play) (hy : t.play id = some y) :
      (m.requestRelease a).play id = t.afterRelease y := by
    by_cases here : id = a
    · subst here
      obtain rfl := Option.some.inj (hx.symm.trans hy)
      exact (play_requestRelease hx').trans after
    · rw [others id here]
      exact h.plays id (by simpa [here] using hid) y hy
  by_cases ends : m.endsAtOnce a = true
  · obtain ⟨⟨-, claims, slots⟩, -⟩ := requestRelease_ends hx' ends
    rw [instant] at ends
    refine ⟨othersStand, playsReleased, fun c => ?_, fun n => ?_⟩
    · rw [claims, h.claims, List.filter_filter]
      refine List.filter_congr fun id _ => ?_
      by_cases here : id = a
      · simp [here, ends]
      · simp [here]
    · rw [slots, List.any_append]
      by_cases cue : n = x.cue
      · subst cue
        rw [slot, otherCue]
        simp [ends, hx]
      · rw [if_neg fun both => cue both.1, h.slots]
        simp [hx, Ne.symm cue]
  · obtain ⟨-, claims, slots⟩ := requestRelease_stays hx' ends
    rw [instant] at ends
    refine ⟨othersStand, playsReleased, fun c => ?_, fun n => ?_⟩
    · rw [State.claimList, claims]
      refine (h.claims c).trans (List.filter_congr fun id _ => ?_)
      by_cases here : id = a
      · simp [here, ends]
      · simp [here]
    · rw [State.slot, slots]
      refine (h.slots n).trans ?_
      simp [ends]

/-! ## The request -/

theorem mem_playsUpTo_iff (t : State) (p id : Nat) : id ∈ t.playsUpTo p ↔
    ∃ x, t.play id = some x ∧ x.source ≠ .fallback ∧ x.priority ≤ p := by
  simp only [State.playsUpTo, List.mem_filter, Option.any_eq_true, Bool.and_eq_true, bne_iff_ne, decide_eq_true_eq]
  refine ⟨fun h => h.2, fun h => ⟨?_, h⟩⟩
  obtain ⟨x, hx, -⟩ := h
  exact (mem_playIds id).mpr (id_of_play t id x hx)

theorem nodup_playsUpTo (t : State) (p : Nat) : (t.playsUpTo p).Nodup := (List.nodup_range' ..).filter _

/-- Settles O21: by the releases of the plays up to the priority, one after the other. -/
theorem releaseAllReleasesThePlaysUpToAPriority : Obligations.ReleaseAllReleasesThePlaysUpToAPriority := by
  refine fun via payload s t o taken => ⟨fun malformed => ?malformed, fun p operands => ?_⟩
  case malformed => exact request_replied taken (by rw [State.releaseAllBlock, malformed]; rfl)
  intro acted ends
  have frame : PlayFrame t ((t.playsUpTo p).foldl State.requestRelease t) :=
    playFrame_foldl _ playFrame_requestRelease _ t
  have present (a : Nat) (ha : a ∈ t.playsUpTo p) : (t.play a).isSome = true := by
    obtain ⟨x, hx, -⟩ := (mem_playsUpTo_iff t p a).mp ha
    rw [hx]; rfl
  have member {id : Nat} {x : Play} (hx : t.play id = some x) : id ∈ t.playsUpTo p ↔ acted x = true := by
    rw [mem_playsUpTo_iff, hx]
    simp [acted]
  have fading : Fading t (t.playsUpTo p) ((t.playsUpTo p).foldl State.requestRelease t) :=
    foldl_requestRelease (P := Fading t) fading_step _ [] t ⟨⟨rfl, rfl, rfl⟩, fun _ _ => rfl, nofun⟩ (nodup_playsUpTo t p) present
  refine ⟨((t.playsUpTo p).foldl State.requestRelease t).drive, request_replied taken ?_, playSide_drive frame, fading.events,
    follows_drive frame, fun id x hx => ⟨fun spared => ?_, fun act => ?_⟩, fun kept => ?_⟩
  · rw [State.releaseAllBlock, operands]; rfl
  · exact (fading.others id fun inside => by rw [(member hx).mp inside] at spared; exact nomatch spared).trans hx
  · exact fading.fades id ((member hx).mpr act)
  · have unique := ((claimsKept_iff t).mp kept).1.1
    have released : ReleasedSoFar t (t.playsUpTo p) ((t.playsUpTo p).foldl State.requestRelease t) :=
      foldl_requestRelease (P := ReleasedSoFar t) (releasedSoFar_step fun a b x y => unique a b x y trivial trivial) _ [] t
        ⟨fun _ _ => rfl, nofun, fun c => by simp, fun n => by simp⟩ (nodup_playsUpTo t p) present
    have endsIff (id : Nat) : (decide (id ∈ t.playsUpTo p) && t.endsAtOnce id) = ends id := by
      cases hx : t.play id with
      | none => simp [ends, State.endsAtOnce, hx]
      | some x => simp [ends, State.endsAtOnce, hx, member hx, Bool.and_assoc]
    refine ⟨fun id empty => ?_, fun id x hx act => ⟨fun instant => ?_, fun before long => ?_, fun fades => ?_⟩, fun c => ?_,
      fun n => ?_⟩
    · refine (released.others id fun inside => ?_).trans empty
      have found := present id inside
      rw [empty] at found
      exact nomatch found
    · refine (released.plays id ((member hx).mpr act) x hx).trans ?_
      rw [← endsIff] at instant
      obtain ⟨before, short⟩ := (endsAtOnce_of_play hx).mp (Bool.and_eq_true_iff.mp instant).2
      rw [State.afterRelease, if_neg (by rw [before]; exact nofun), if_pos short]
    · refine (released.plays id ((member hx).mpr act) x hx).trans ?_
      rw [State.afterRelease, if_neg (by rw [before]; exact nofun), if_neg long]
      rfl
    · refine (released.plays id ((member hx).mpr act) x hx).trans ?_
      rw [State.afterRelease, if_pos fades]
    · refine (released.claims c).trans (List.filter_congr fun id _ => ?_)
      rw [endsIff]
    · refine (released.slots n).trans (if_congr (and_congr_right fun _ => ?_) rfl rfl)
      simp only [List.any_eq_true, ← endsIff, Bool.and_eq_true, decide_eq_true_eq]
      constructor
      · rintro ⟨id, inside, both⟩
        exact ⟨id, (List.mem_filter.mp inside).1, ⟨inside, both.1⟩, both.2⟩
      · rintro ⟨id, -, ⟨inside, instant⟩, cue⟩
        exact ⟨id, inside, instant, cue⟩

end Sys2Proof.Machine
end

section
/-! Triggers and releases that patterns and the start policy ask for, one after the other. -/

namespace Sys2Proof.Machine

/-! ## Flags that were raised stay raised -/

/-- Every flag of `s` is raised in `t`. -/
def FlagsStay (s t : State) : Prop := ∀ i, s.flags.getLsbD i = true → t.flags.getLsbD i = true

theorem flagsStay_of_eq {s t : State} (h : t.flags = s.flags) : FlagsStay s t := fun _ raised => by rw [h]; exact raised

theorem FlagsStay.trans {s t u : State} (h₁ : FlagsStay s t) (h₂ : FlagsStay t u) : FlagsStay s u := fun i raised => h₂ i (h₁ i raised)

theorem flagsStay_raise (s : State) (e : EventFlag) : FlagsStay s (s.raise e) := fun i raised => by
  show (s.flags ||| e.set).getLsbD i = true
  rw [BitVec.getLsbD_or, raised, Bool.true_or]

theorem flagsStay_evict (s : State) (n id : Nat) : FlagsStay s (s.evict n id) := by
  cases hp : s.play id with
  | none => rw [evict_of_none hp]; exact flagsStay_of_eq rfl
  | some p =>
    rw [evict_of_play hp]
    exact (flagsStay_of_eq (sameEvents_endPlay s id).1).trans (flagsStay_raise (s.endPlay id) .eviction)

theorem flagsStay_evictAll (s : State) (n : Nat) (marks : List Nat) : FlagsStay s (s.evictAll n marks) := by
  induction marks generalizing s with
  | nil => exact flagsStay_of_eq rfl
  | cons id marks ih => exact (flagsStay_evict s n id).trans (ih _)

theorem flagsStay_playAct {s t : State} (act : PlayAct s t) : FlagsStay s t := by
  cases act with
  | event e => exact flagsStay_raise s e
  | adjusted | edited => exact flagsStay_of_eq rfl
  | ended => exact flagsStay_of_eq (sameEvents_endPlay s _).1
  | restarted hp =>
    rw [restart_eq_fillRecord hp]
    exact flagsStay_of_eq (sameEvents_fillRecord s _ _ _ _).1
  | admitted => exact (flagsStay_evictAll s _ _).trans (flagsStay_of_eq (sameEvents_fillRecord _ _ _ _ _).1)
  | @handedOver m id cue p marks vacated =>
    have evicted := (flagsStay_of_eq (flags_of_vacated vacated)).trans (flagsStay_evictAll m cue marks)
    exact evicted.trans (flagsStay_of_eq (sameEvents_fillRecord ((m.evictAll cue marks).removeClaims id) _ _ _ _).1)
  | converted => unfold State.convert; exact flagsStay_of_eq (sameEvents_arrive _ _).1
  | rewritten vacated =>
    have stay := flagsStay_of_eq (flags_of_vacated vacated)
    exact stay

theorem flagsStay_playActs {s t : State} (run : PlayActs s t) : FlagsStay s t := by
  induction run with
  | refl => exact flagsStay_of_eq rfl
  | tail _ act ih => exact ih.trans (flagsStay_playAct act)

/-! ## Triggers whose refusal is an event (02 R35) -/

theorem triggerReported_refused {s : State} {n c : Nat} {source : Source} {reason : Status}
    (refused : s.triggerFrom4 n source none = (s, .refused reason c)) :
    s.triggerReported n source = s.raiseRefused ⟨n, source, reason, c⟩ := by
  rw [State.triggerReported, refused]
  rfl

theorem triggerReported_ok {s v : State} {n id : Nat} {source : Source}
    (acted : s.triggerFrom4 n source none = (v, .ok id)) : s.triggerReported n source = v := by
  rw [State.triggerReported, acted]
  rfl

theorem triggerReported_ignored {s : State} {n id : Nat} {source : Source}
    (ignored : s.triggerFrom4 n source none = (s, .ignored id)) : s.triggerReported n source = s := by
  rw [State.triggerReported, ignored]
  rfl

theorem refusedBy_reported {s : State} {n c : Nat} {source : Source} {reason : Status}
    (refused : s.triggerFrom4 n source none = (s, .refused reason c)) (channels : Vector Channel 16) :
    RefusedBy s { s.triggerReported n source with channels := channels } n source reason c := by
  rw [triggerReported_refused refused]
  rfl

/-- What a trigger without override leads to, whatever the channel records then become. -/
theorem triggeredBy_reported (s : State) (n : Nat) (source : Source) (channels : Vector Channel 16) :
    TriggeredBy s { s.triggerReported n source with channels := channels } n source := by
  refine ⟨?side, fun free => ?free, fun retiring => ?retiring, fun held => ⟨fun id p found hp => ⟨fun fallback => ?guarded,
    fun ordinary => ?retriggered⟩, fun absent => ⟨fun full => ?full, fun room => ⟨fun c check => ?fails,
      fun marks check kept claims => ?made⟩⟩⟩⟩
  case side =>
    unfold PlaySide
    rw [playFrame_triggerReported s n source]
  case free => exact refusedBy_reported (by rw [State.triggerFrom4, free]) channels
  case retiring => exact refusedBy_reported (by rw [State.triggerFrom4, retiring]) channels
  case guarded =>
    exact refusedBy_reported (by rw [triggerFrom4_held held, triggerFrom6_found found hp, if_pos fallback]) channels
  case retriggered =>
    have acts := triggerFrom4_ordinary held found hp ordinary source none
    have record := recordOf_of_playOf found hp
    rw [← record] at acts ⊢
    cases policy : (s.recordOf p).policy with
    | restart =>
      rw [triggerReported_ok (acts.trans (retrigger_restart policy _ _ _))]
      exact ⟨sameEvents_restart hp _ _, others_restart hp _ _, fun _ => restarted_restart hp _ _, nofun, nofun⟩
    | queue =>
      rw [triggerReported_ok (acts.trans (retrigger_queue policy _ _ _))]
      exact ⟨⟨rfl, rfl, rfl⟩, others_setPlay s id _, nofun, fun _ => ⟨setPlay_written hp _, rfl, rfl⟩, nofun⟩
    | ignore =>
      rw [triggerReported_ignored (acts.trans (retrigger_ignore policy _ _ _))]
      exact ⟨⟨rfl, rfl, rfl⟩, fun _ _ => rfl, nofun, nofun, fun _ => rfl⟩
  case full =>
    exact refusedBy_reported (by rw [triggerFrom4_held held, triggerFrom6_absent absent, admitPlay_full full]) channels
  case fails =>
    exact refusedBy_reported
      (by rw [triggerFrom4_held held, triggerFrom6_absent absent]; exact admitPlay_fails room check source) channels
  case made =>
    obtain ⟨id, lowest, admitted⟩ := admitPlay_made ((fallbackKept_iff s).mp kept).1 room check source
    obtain ⟨plays, nodup⟩ := marks_of_check ((claimsKept_iff s).mp claims).1 check
    have acted : s.triggerReported n source = _ :=
      triggerReported_ok (by rw [triggerFrom4_held held, triggerFrom6_absent absent]; exact admitted)
    rw [acted]
    exact ⟨id, lowest.range.1, lowest.range.2, lowest.free, lowest.below,
      playMade_admitted absent (lowest.range.imp_right fun h => by omega) plays nodup source _⟩

/-! ## Releases by a pattern (06 R138) -/

theorem patternRelease_absent {s : State} {n : Nat} (absent : s.playOf n = none) : s.patternRelease n = s := by
  rw [State.patternRelease, absent]

theorem patternRelease_found {s : State} {n id : Nat} {p : Play} (found : s.playOf n = some id) (hp : s.play id = some p) :
    s.patternRelease n = if p.source = .fallback then s else s.requestRelease id := by
  rw [State.patternRelease, found]
  exact if_congr (any_fallback_iff hp) rfl rfl

theorem releasedBy_pattern (s : State) (n : Nat) (channels : Vector Channel 16) :
    ReleasedBy s { s.patternRelease n with channels := channels } n := by
  have side : PlaySide s { s.patternRelease n with channels := channels } := by
    unfold PlaySide
    rw [playFrame_patternRelease s n]
  refine ⟨side, ?_⟩
  cases found : s.playOf n with
  | none =>
    rw [patternRelease_absent found]
    exact ⟨⟨rfl, rfl, rfl⟩, fun _ => rfl, nofun⟩
  | some id =>
    obtain ⟨-, p, hp, -⟩ := playOf_some found
    have acts := patternRelease_found found hp
    by_cases fallback : p.source = .fallback
    · rw [acts, if_pos fallback]
      refine ⟨⟨rfl, rfl, rfl⟩, nofun, fun j q hj hq => ?_⟩
      obtain rfl := Option.some.inj hj
      obtain rfl := Option.some.inj (hp.symm.trans hq)
      exact ⟨fun _ => rfl, fun ordinary => absurd fallback ordinary⟩
    · rw [acts, if_neg fallback]
      obtain ⟨others, events, before, fading⟩ := requestRelease_spec hp
      refine ⟨events, nofun, fun j q hj hq => ?_⟩
      obtain rfl := Option.some.inj hj
      obtain rfl := Option.some.inj (hp.symm.trans hq)
      exact ⟨fun same => absurd same fallback, fun _ => ⟨others, before, fading⟩⟩

/-! ## The action of a pattern (06 R136 to R139) -/

theorem playBeforeFade_iff (s : State) (n : Nat) : s.playBeforeFade n = true ↔
    ∃ id p, s.playOf n = some id ∧ s.play id = some p ∧ p.phase.beforeFade = true := by
  unfold State.playBeforeFade
  cases s.playOf n with
  | none => simp
  | some id => simp [Option.any_eq_true]

theorem performAction_of_pattern {s : State} {k : Nat} {x : Pattern} (hx : s.pattern k = some x) :
    s.performAction k = (s.patternAction k x.record).drive := by
  rw [State.performAction, hx]

theorem patterns_performAction (s : State) (k : Nat) : (s.performAction k).patterns = s.patterns := by
  unfold State.performAction
  split
  · rfl
  · exact (playFrame_patternAction s k _).patterns

theorem lines_performAction (s : State) (k : Nat) : (s.performAction k).lines = s.lines := by
  unfold State.performAction
  split
  · rfl
  · exact (playFrame_patternAction s k _).lines

theorem flagsStay_performAction (s : State) (k : Nat) : FlagsStay s (s.performAction k) := by
  unfold State.performAction
  split
  · exact flagsStay_of_eq rfl
  · next x _ =>
    have stay := flagsStay_playActs (playActs_patternAction s k x.record)
    exact stay

theorem actedOn_performAction {s : State} {k : Nat} (present : (s.pattern k).isSome = true) :
    ActedOn s (s.performAction k) k := by
  obtain ⟨x, hx⟩ := Option.isSome_iff_exists.mp present
  rw [performAction_of_pattern hx]
  refine ⟨follows_drive (playFrame_patternAction s k _), fun y hy => ?_⟩
  obtain rfl := Option.some.inj (hx.symm.trans hy)
  unfold State.patternAction
  cases action : x.record.action with
  | trigger => exact ⟨fun _ => triggeredBy_reported s _ _ _, nofun, nofun⟩
  | release => exact ⟨nofun, fun _ => releasedBy_pattern s _ _, nofun⟩
  | toggle =>
    refine ⟨nofun, nofun, fun _ => ?_⟩
    dsimp only
    rw [← playBeforeFade_iff]
    split
    · next before => exact ⟨fun _ => releasedBy_pattern s _ _, fun other => absurd before other⟩
    · next other => exact ⟨fun before => absurd before other, fun _ => triggeredBy_reported s _ _ _⟩

/-- What each step of a fold does comes about one after the other. -/
theorem inOrder_foldl {f : State → Nat → State} {act : State → State → Nat → Prop} {P : State → Prop} {good : Nat → Prop}
    (step : ∀ s k, P s → good k → act s (f s k) k ∧ P (f s k)) :
    ∀ (ks : List Nat) (s : State), P s → (∀ k ∈ ks, good k) → InOrder act ks s (ks.foldl f s)
  | [], _, _, _ => rfl
  | k :: ks, s, hs, ok => by
    obtain ⟨acted, kept⟩ := step s k hs (ok k (List.mem_cons_self ..))
    exact ⟨_, acted, inOrder_foldl step ks _ kept fun j hj => ok j (List.mem_cons_of_mem _ hj)⟩

end Sys2Proof.Machine
end

section
/-! Input events and the patterns they complete; the entry to RUNNING. -/

namespace Sys2Proof.Machine

/-! ## The offer of an event (06 R132, R133, R134) -/

theorem completes_iff (x : Pattern) (e : InputEvent) : x.completes e = true ↔
    x.record.enabled = true ∧ x.record.elements[x.progress]? = some e ∧ x.progress + 1 = x.record.elements.length := by
  simp [Pattern.completes, and_assoc]

theorem windowMicros_eq (r : PatternRecord) : r.windowMicros = r.window * 50000 := by
  simp only [PatternRecord.windowMicros, inMicros, Config.msMicros]
  omega

theorem offer_disabled {x : Pattern} (disabled : x.record.enabled = false) (e : InputEvent) : x.offer e = x := by
  rw [Pattern.offer, disabled]
  rfl

theorem offer_enabled {x : Pattern} (enabled : x.record.enabled = true) (e : InputEvent) : x.offer e =
    if x.record.elements[x.progress]? = some e then
      if x.progress + 1 = x.record.elements.length then x.clear
      else { x with progress := x.progress + 1, window := if x.progress = 0 then some (x.record.window * 50000) else x.window }
    else if x.record.elements.head? = some e then { x with progress := 1, window := some (x.record.window * 50000) }
    else x.clear := by
  rw [Pattern.offer, enabled, windowMicros_eq]
  rfl

theorem record_offer (x : Pattern) (e : InputEvent) : (x.offer e).record = x.record := by
  unfold Pattern.offer
  split_ifs <;> rfl

theorem mem_completedBy_iff (s : State) (e : InputEvent) (k : Nat) : k ∈ s.completedBy e ↔
    ∃ x, s.pattern k = some x ∧ x.record.enabled = true ∧ x.record.elements[x.progress]? = some e ∧
      x.progress + 1 = x.record.elements.length := by
  simp only [State.completedBy, List.mem_filter, Option.any_eq_true, completes_iff]
  exact ⟨fun h => h.2, fun h => ⟨mem_patternIds_of_pattern h.choose_spec.1, h⟩⟩

theorem offer_completed {s : State} {e : InputEvent} (some : s.completedBy e ≠ []) :
    s.offer e = { s with patterns := mapBank (·.offer e) s.patterns, flags := s.flags ||| 0x0001 } := if_neg some

theorem offer_incomplete {s : State} {e : InputEvent} (none : s.completedBy e = []) :
    s.offer e = { s with patterns := mapBank (·.offer e) s.patterns } := if_pos none

theorem patterns_offer (s : State) (e : InputEvent) : (s.offer e).patterns = mapBank (·.offer e) s.patterns := by
  unfold State.offer
  dsimp only
  split <;> rfl

theorem patterns_performActions (ks : List Nat) (s : State) : (ks.foldl State.performAction s).patterns = s.patterns := by
  induction ks generalizing s with
  | nil => rfl
  | cons k ks ih => exact (ih _).trans (patterns_performAction s k)

theorem lines_performActions (ks : List Nat) (s : State) : (ks.foldl State.performAction s).lines = s.lines := by
  induction ks generalizing s with
  | nil => rfl
  | cons k ks ih => exact (ih _).trans (lines_performAction s k)

theorem flagsStay_performActions (ks : List Nat) (s : State) : FlagsStay s (ks.foldl State.performAction s) := by
  induction ks generalizing s with
  | nil => exact flagsStay_of_eq rfl
  | cons k ks ih => exact (flagsStay_performAction s k).trans (ih _)

/-- The actions of patterns that exist, each whole before the next. -/
theorem inOrder_performActions {ks : List Nat} {s : State} (present : ∀ k ∈ ks, (s.pattern k).isSome = true) :
    InOrder ActedOn ks s (ks.foldl State.performAction s) := by
  refine inOrder_foldl (f := State.performAction) (P := fun t => t.patterns = s.patterns)
    (good := fun k => (s.pattern k).isSome = true) (fun t k same here => ⟨actedOn_performAction ?_, (patterns_performAction t k).trans same⟩) ks s rfl present
  rw [State.pattern, same]
  exact here

/-- Settles O46: the offer to every pattern, and then the actions in ascending order. -/
theorem inputEventsAdvanceTheEnabledPatterns : Obligations.InputEventsAdvanceTheEnabledPatterns := by
  intro s e completes
  have patterns : (s.inputEvent e).patterns = mapBank (·.offer e) s.patterns :=
    (patterns_performActions _ _).trans (patterns_offer s e)
  have some_iff : (∃ k x, s.pattern k = some x ∧ completes x) ↔ s.completedBy e ≠ [] := by
    simp only [ne_eq, List.eq_nil_iff_forall_not_mem, not_forall, not_not, mem_completedBy_iff]
    rfl
  have none_iff : (¬∃ k x, s.pattern k = some x ∧ completes x) ↔ s.completedBy e = [] := by rw [some_iff, not_not]
  have lines : (s.offer e).lines = s.lines := by unfold State.offer; dsimp only; split <;> rfl
  rw [none_iff, some_iff]
  refine ⟨(lines_performActions _ _).trans lines, ⟨s.offer e, ?_, fun some => ?_, fun none => ?_, ?_⟩, fun some => ?_,
    fun none => ?_, fun k x hx => ⟨fun running => ?_, fun out => ?_, x.offer e, ?_, record_offer x e, fun disabled => ?_,
      fun done => ?_, fun enabled more next => ?_, fun enabled other first => ?_, fun enabled other first => ?_⟩⟩
  · rw [patterns, ← patterns_offer]
    unfold State.offer
    dsimp only
    split <;> rfl
  · rw [offer_completed some]
  · rw [offer_incomplete none]
  · refine inOrder_performActions fun k completed => ?_
    obtain ⟨x, hx, -⟩ := (mem_completedBy_iff s e k).mp completed
    rw [State.pattern, patterns_offer, at1_mapBank, Option.isSome_map]
    exact Option.isSome_of_eq_some hx
  · refine flagsStay_performActions _ _ 0 ?_
    rw [offer_completed some]
    simp
  · rw [patterns, State.inputEvent, none, offer_incomplete none]
    rfl
  · refine congrArg done ?_
    rw [State.windowExpiry, hx]
    exact if_neg running
  · refine congrArg done ?_
    rw [State.windowExpiry, hx]
    exact if_pos out
  · rw [State.pattern, patterns, at1_mapBank]
    exact congrArg (Option.map _) hx
  · exact offer_disabled disabled e
  · obtain ⟨enabled, next, last⟩ := done
    rw [offer_enabled enabled, if_pos next, if_pos last]
    exact ⟨rfl, rfl⟩
  · have more : x.progress + 1 ≠ x.record.elements.length := fun last => more ⟨enabled, next, last⟩
    rw [offer_enabled enabled, if_pos next, if_neg more]
    exact ⟨rfl, rfl⟩
  · rw [offer_enabled enabled, if_neg other, if_pos first]
    exact ⟨rfl, rfl⟩
  · rw [offer_enabled enabled, if_neg other, if_neg first]
    exact ⟨rfl, rfl⟩

/-! ## The entry to RUNNING (10 R184) -/

/-- The part as it begins to run: every enabled line accepts its raw level, and the watchdog starts. -/
def State.begun (s : State) : State := (State.acceptLines { s with stage := .running }).startWatchdog

theorem begun_eq {s : State} (off : s.fallbackOn = false) : s.begun = { s with
    stage := .running
    lines := mapBank1 (fun l x => x.rebase (s.lineItems l).enabled) s.lines
    watchdog := if s.config.watchdogPeriod ≠ 0 then some s.config.watchdogMicros else s.watchdog } :=
  startWatchdog_running rfl off

/-- The triggers of the start policy, each whole before the next. -/
def State.startTriggers (s : State) (cues : List Nat) : State := cues.foldl (fun u cue => u.triggerReported cue .start) s

theorem enterRunning_eq (s : State) : s.enterRunning = ((s.begun.startTriggers s.startCues).drive).raise .restarted := rfl

theorem playFrame_startTriggers (s : State) (cues : List Nat) : PlayFrame s (s.startTriggers cues) :=
  playFrame_foldl _ (fun t n => playFrame_triggerReported t n .start) cues s

theorem inOrder_of_eq {act : State → State → Nat → Prop} {ks : List Nat} {s t u : State} (same : t = s)
    (run : InOrder act ks s u) : InOrder act ks t u := by
  rw [same]
  exact run

theorem inOrder_startTriggers (s : State) (cues : List Nat) :
    InOrder (fun v w n => TriggeredBy v w n .start) cues s (s.startTriggers cues) :=
  inOrder_foldl (P := fun _ => True) (good := fun _ => True)
    (fun t n _ _ => ⟨triggeredBy_reported t n .start (t.triggerReported n .start).channels, trivial⟩) cues s trivial
    fun _ _ => trivial

/-! ## The first trigger of a part that holds no play -/

theorem ordinaryTotal_silent {s : State} (silent : ∀ id, s.play id = none) : s.ordinaryTotal = 0 := by
  rw [State.ordinaryTotal, List.countP_eq_zero]
  intro id _
  rw [silent id]
  exact nofun

theorem admissionCheck_silent {s : State} (unclaimed : ∀ c, s.claimList c = []) (cs : List Nat) (priority : Nat) :
    s.admissionCheck cs priority = .admits [] := by
  have judged (c : Nat) : s.judgedList none c = [] := by rw [State.judgedList, unclaimed]; rfl
  refine (admissionCheck_admits_iff s cs priority none []).mpr ⟨fun c _ => ?_, ?_⟩
  · rw [channelPasses_iff, judged]
    exact .inl (by decide)
  · have none : cs.filterMap (s.lastOfFull none) = [] := by
      rw [List.filterMap_eq_nil_iff]
      intro c _
      rw [State.lastOfFull, judged]
      rfl
    rw [none]
    rfl

/-- The first play of all stands in record 1, with no other claim in its way. -/
theorem triggerReported_silent {s : State} (silent : ∀ id, s.play id = none) (unclaimed : ∀ c, s.claimList c = []) {n : Nat}
    (held : (s.slot n).status = .held) (source : Source) :
    s.triggerReported n source = s.fillRecord 1 n source (s.slot n).record.priority := by
  have absent : s.playOf n = none := playOf_none_iff.mpr fun id p hp => nomatch (silent id).symm.trans hp
  have first : s.lowestFreeId = some 1 := lowestFreeId_iff.mpr ⟨silent 1, by decide, fun j low under => by omega⟩
  refine triggerReported_ok (id := 1) ?_
  rw [triggerFrom4_held held, triggerFrom6_absent absent, State.admitPlay, ordinaryTotal_silent silent,
    admissionCheck_silent unclaimed]
  dsimp only
  rw [evictAll_nil, first]
  rfl

theorem triggerReported_free {s : State} {n : Nat} (free : (s.slot n).status = .free) (source : Source) :
    s.triggerReported n source = s.raiseRefused ⟨n, source, .noCue, 0⟩ :=
  triggerReported_refused (by rw [State.triggerFrom4, free])

theorem startCues_dark {s : State}
    (dark : s.config.startPolicy = .dark ∨ s.config.startPolicy = .startCue ∧ s.config.startCue = 0) : s.startCues = [] := by
  unfold State.startCues
  rcases dark with policy | ⟨policy, none⟩
  · rw [policy]
  · rw [policy]; exact if_pos none

theorem startCues_cue {s : State} {n : Nat} (policy : s.config.startPolicy = .startCue) (cue : n = s.config.startCue)
    (some : n ≠ 0) : s.startCues = [n] := by
  unfold State.startCues
  rw [policy]
  subst cue
  exact if_neg some

/-- Settles O49: the part begins to run, the policy's triggers come, and then the outputs and RESTARTED. -/
theorem entryToRunningAppliesTheStartPolicy : Obligations.EntryToRunningAppliesTheStartPolicy := by
  intro s left settling silent unclaimed off stopped
  have begun := begun_eq off
  have frame := playFrame_startTriggers s.begun s.startCues
  have answer : exec .entryToRunning s = .next (((s.begun.startTriggers s.startCues).drive).raise .restarted) := by
    refine congrArg done (if_pos ?_)
    rw [settling]
    rfl
  have silentBegun (id : Nat) : s.begun.play id = none := by rw [begun]; exact silent id
  have unclaimedBegun (c : Nat) : s.begun.claimList c = [] := by rw [begun]; exact unclaimed c
  have slots (n : Nat) : s.begun.slot n = s.slot n := by rw [begun]; rfl
  have watchdog : (s.begun.startTriggers s.startCues).watchdog =
      if s.config.watchdogPeriod ≠ 0 then some s.config.watchdogMicros else none := by
    rw [frame.watchdog, begun, ← stopped]
  have lines : (s.begun.startTriggers s.startCues).lines =
      mapBank1 (fun l x => x.rebase (s.lineItems l).enabled) s.lines := by
    rw [frame.lines, begun]
  have order := inOrder_startTriggers s.begun s.startCues
  generalize hm : s.begun.startTriggers s.startCues = m at *
  refine ⟨_, answer, ?stage, ?flag, ?config, ?thermal, ?patterns, ?store, watchdog, levels_follow_after_drive _,
    fun l x hx => ?line, fun dark => ?dark, ⟨m, rfl, ?order⟩,
    fun n policy cue named held => ?held, fun n policy cue named free => ?free⟩
  case stage => exact frame.stage.trans (by rw [begun])
  case config => exact frame.config.trans (by rw [begun])
  case thermal => exact frame.thermal.trans (by rw [begun])
  case patterns => exact frame.patterns.trans (by rw [begun])
  case store => exact frame.store.trans (by rw [begun])
  case flag =>
    show (m.flags ||| 0x4000).getLsbD 14 = true
    rw [BitVec.getLsbD_or]
    simp
  case line =>
    show at1 m.lines l = _
    have hx' : at1 s.lines l = some x := hx
    rw [lines, at1_mapBank1, hx']
    rfl
  case dark =>
    rw [startCues_dark dark, begun] at hm
    subst hm
    exact ⟨rfl, rfl, rfl⟩
  case order =>
    have start : { s with stage := .running, lines := m.lines, watchdog := m.watchdog } = s.begun := by
      rw [lines, watchdog, begun, stopped]
    exact inOrder_of_eq start order
  case held =>
    have made : s.begun.startTriggers [n] = s.begun.fillRecord 1 n .start (s.slot n).record.priority := by
      rw [← slots n] at held ⊢
      exact triggerReported_silent silentBegun unclaimedBegun held .start
    rw [startCues_cue policy cue named, made, ← slots n] at hm
    have plays (id : Nat) : m.play id = if id = 1 then
        some ((s.begun.slot n).record.begin n .start (s.begun.slot n).record.priority) else s.begun.play id := by
      rw [← hm]
      exact play_fillRecord _ (by decide) _ _ _ id
    have slotsStand : m.slots = s.slots := by rw [← hm, fillRecord_slots, begun]
    have flags : m.flags = s.flags := by
      rw [← hm]
      exact (sameEvents_fillRecord _ _ _ _ _).1.trans (by rw [begun])
    rw [← slots n]
    exact ⟨(plays 1).trans (if_pos rfl), fun id other => (plays id).trans ((if_neg other).trans (silentBegun id)), slotsStand,
      congrArg (fun flags : EventSet => flags ||| 0x4000) flags⟩
  case free =>
    have refused : s.begun.startTriggers [n] = s.begun.raiseRefused ⟨n, .start, .noCue, 0⟩ :=
      triggerReported_free ((congrArg _ (slots n)).trans free) .start
    rw [startCues_cue policy cue named, refused, begun] at hm
    subst hm
    exact ⟨rfl, rfl, BitVec.or_assoc s.flags 0x0002 0x4000, rfl⟩

end Sys2Proof.Machine
end

section
/-! Chains (02 R44 to R49, 04 R91, R92). -/

namespace Sys2Proof.Machine

/-! ## States that differ in the step of one play -/

/-- `m` is `s` but for what record `id` holds besides its cue and its priority. -/
structure Alike (s m : State) (id : Nat) : Prop where
  slots : ∀ n, m.slot n = s.slot n
  claims : ∀ c, m.claimList c = s.claimList c
  others : OtherPlaysStand s m id
  here : ∃ x y, s.play id = some x ∧ m.play id = some y ∧ y.cue = x.cue ∧ y.priority = x.priority
  events : SameEvents s m

section
variable {s m : State} {id : Nat} (h : Alike s m id)
include h

theorem Alike.cue (e n : Nat) : (m.play e).any (·.cue == n) = (s.play e).any (·.cue == n) := by
  obtain ⟨x, y, hx, hy, cue, -⟩ := h.here
  by_cases same : e = id
  · subst same
    rw [hx, hy, Option.any_some, Option.any_some, cue]
  · rw [h.others e same]

theorem Alike.play_cue {e : Nat} {x : Play} (hx : s.play e = some x) : ∃ y, m.play e = some y ∧ y.cue = x.cue := by
  obtain ⟨x', y, hx', hy, cue, -⟩ := h.here
  by_cases same : e = id
  · subst same
    obtain rfl := Option.some.inj (hx'.symm.trans hx)
    exact ⟨y, hy, cue⟩
  · exact ⟨x, (h.others e same).trans hx, rfl⟩

theorem Alike.playOf (n : Nat) : m.playOf n = s.playOf n := by
  unfold State.playOf
  congr 1
  funext e
  exact h.cue e n

theorem Alike.priorityOf : m.priorityOf = s.priorityOf := by
  obtain ⟨x, y, hx, hy, -, priority⟩ := h.here
  funext e
  by_cases same : e = id
  · subst same
    rw [priorityOf_of_play hx, priorityOf_of_play hy, priority]
  · rw [State.priorityOf, State.priorityOf, h.others e same]

theorem Alike.check (cs : List Nat) (priority : Nat) (absent : Option Nat) :
    m.admissionCheck cs priority absent = s.admissionCheck cs priority absent := by
  have judged (c : Nat) : m.judgedList absent c = s.judgedList absent c := by
    rw [State.judgedList, State.judgedList, h.claims]
  have from_any (marks : List Nat) : m.checkFrom priority absent cs marks = s.checkFrom priority absent cs marks := by
    induction cs generalizing marks with
    | nil => rfl
    | cons c cs ih => simp only [State.checkFrom, judged, h.priorityOf, ih]
  exact from_any []

theorem Alike.evicted {u : State} {n : Nat} {marks : List Nat} (evicted : Evicted m u n marks) : Evicted s u n marks := by
  obtain ⟨slots, refusal, silent, last⟩ := evicted
  obtain ⟨flags, lastRefusal, lastEviction⟩ := h.events
  refine ⟨fun k => ?_, refusal.trans lastRefusal, fun none => ?_, fun e x marked hx => ?_⟩
  · have cues : (fun e => (m.play e).any (·.cue == k)) = fun e => (s.play e).any (·.cue == k) := funext fun e => h.cue e k
    rw [slots, h.slots, cues]
  · exact (silent none).imp (·.trans flags) (·.trans lastEviction)
  · obtain ⟨y, hy, cue⟩ := h.play_cue hx
    rw [← cue, ← flags]
    exact last e y marked hy

/-- A play made in record `id` is the same one, whatever stood in that record. -/
theorem Alike.made {u : State} {n : Nat} {source : Source} {priority : Nat} {marks gone : List Nat}
    (made : PlayMade m u n source priority marks gone id) : PlayMade s u n source priority marks gone id := by
  obtain ⟨play, others, claims, evicted⟩ := made
  refine ⟨?_, fun j other => ?_, fun c hc => ?_, h.evicted evicted⟩
  · rw [← h.slots]; exact play
  · rw [others j other, h.others j other]
  · rw [← h.slots, ← h.claims]; exact claims c hc

/-- The end of another play keeps the likeness. -/
theorem Alike.endPlay {j : Nat} (other : j ≠ id) : Alike (s.endPlay j) (m.endPlay j) id := by
  have same : m.play j = s.play j := h.others j other
  cases hq : s.play j with
  | none =>
    rw [endPlay_of_none hq, endPlay_of_none (same.trans hq)]
    exact h
  | some q =>
    have hq' := same.trans hq
    obtain ⟨x, y, hx, hy, cue, priority⟩ := h.here
    refine ⟨fun n => ?_, fun c => ?_, fun k hk => ?_, ⟨x, y, ?_, ?_, cue, priority⟩, ?_⟩
    · rw [slot_endPlay hq, slot_endPlay hq', h.slots]
    · rw [claimList_endPlay hq, claimList_endPlay hq', h.claims]
    · rw [play_endPlay_all, play_endPlay_all, h.others k hk]
    · rw [play_endPlay_other s other.symm, hx]
    · rw [play_endPlay_other m other.symm, hy]
    · obtain ⟨flags, refusal, eviction⟩ := sameEvents_endPlay s j
      exact SameEvents.trans ⟨flags.symm, refusal.symm, eviction.symm⟩ (h.events.trans (sameEvents_endPlay m j))

end

theorem alike_setPlay {s : State} {id : Nat} {p q : Play} (hp : s.play id = some p) (cue : q.cue = p.cue)
    (priority : q.priority = p.priority) : Alike s (s.setPlay id (some q)) id :=
  ⟨fun _ => rfl, fun _ => rfl, others_setPlay s id _, ⟨p, q, hp, setPlay_written hp _, cue, priority⟩, ⟨rfl, rfl, rfl⟩⟩

/-! ## Admission at priority 16 (07 R154, 02 R29) -/

/-- At priority 16 a check admits: no other play than that of record 24 stands so high (04 R84, 07 R154). -/
theorem check_at_16_admits {s : State} (engine : EngineKept s) (cs : List Nat) {absent : Option Nat}
    (apart : absent = some 24 ∨ s.play 24 = none) : ∃ marks, s.admissionCheck cs 16 absent = .admits marks := by
  simp only [admissionCheck_admits_iff, exists_and_left, exists_eq, and_true]
  intro c _
  rw [channelPasses_iff]
  cases last : (s.judgedList absent c).getLast? with
  | none => exact .inl (by rw [List.getLast?_eq_none_iff.mp last]; decide)
  | some e =>
    refine .inr ⟨e, rfl, ?_⟩
    obtain ⟨-, kept⟩ := List.mem_filter.mp (List.mem_of_getLast? last)
    cases hx : s.play e with
    | none => rw [State.priorityOf, hx]; decide
    | some x =>
      have other : e ≠ 24 := by
        rintro rfl
        rcases apart with rfl | empty
        · exact absurd kept (by simp)
        · exact nomatch empty.symm.trans hx
      rw [priorityOf_of_play hx]
      exact Nat.lt_succ_of_le ((keptIn_ordinary other).mp (engine.1 e x hx)).2

/-! ## The cases of a chain -/

theorem chain_unheld {s : State} {t : Nat} (gone : (s.slot t).status ≠ .held) (id : Nat) (p : Play) :
    s.chain id p t = s.failChain id := if_pos gone

theorem chain_self {s : State} {p : Play} (held : (s.slot p.cue).status = .held) (id : Nat) : s.chain id p p.cue =
    s.restart id p.chainSource (p.chainPriority (s.recordOf p).priority) := by
  rw [State.chain, if_neg (not_not.mpr held), if_pos rfl]

section
variable {s : State} {p : Play} {t : Nat} (held : (s.slot t).status = .held) (other : t ≠ p.cue)
include held other

theorem chain_absent (absent : s.playOf t = none) (id : Nat) : s.chain id p t = s.handover id p t := by
  rw [State.chain, if_neg (not_not.mpr held), if_neg other, absent]

theorem chain_found {j : Nat} (found : s.playOf t = some j) (id : Nat) : s.chain id p t =
    if p.source = .fallback then (s.endPlay j).handover id p t else s.chainToBusy id t := by
  rw [State.chain, if_neg (not_not.mpr held), if_neg other, found]

end

theorem handover_fails {s : State} {id t c : Nat} {p : Play}
    (check : s.admissionCheck (s.slot t).record.channelNumbers (p.chainPriority (s.slot t).record.priority) (some id) =
      .fails c) : s.handover id p t = s.failChain id := by
  unfold State.handover
  dsimp only
  rw [check]

theorem handover_admits {s : State} {id t : Nat} {p : Play} {marks : List Nat}
    (check : s.admissionCheck (s.slot t).record.channelNumbers (p.chainPriority (s.slot t).record.priority) (some id) =
      .admits marks) : s.handover id p t = ((s.evictAll t marks).removeClaims id).fillRecord id t p.chainSource
        (p.chainPriority (s.slot t).record.priority) := by
  unfold State.handover
  dsimp only
  rw [check]

end Sys2Proof.Machine
end

section
/-! Chains to a cue that has a play, and the end action CHAIN as a whole (02 R44 to R49). -/

namespace Sys2Proof.Machine

/-! ## The policy of a cue, applied (02 R31, R32, R33) -/

theorem retrigger_spec {s : State} {id : Nat} {p : Play} (hp : s.play id = some p) (source : Source) (priority : Nat) :
    SameEvents s (s.retrigger id p source priority).1 ∧ OtherPlaysStand s (s.retrigger id p source priority).1 id ∧
      ((s.recordOf p).policy = .restart → Restarted s (s.retrigger id p source priority).1 id p source priority) ∧
      ((s.recordOf p).policy = .queue →
        (s.retrigger id p source priority).1.play id = some { p with pendingRestart := true } ∧
          (s.retrigger id p source priority).1.claims = s.claims ∧ (s.retrigger id p source priority).1.slots = s.slots) ∧
      ((s.recordOf p).policy = .ignore → (s.retrigger id p source priority).1 = s) := by
  cases policy : (s.recordOf p).policy with
  | restart =>
    rw [retrigger_restart policy]
    exact ⟨sameEvents_restart hp _ _, others_restart hp _ _, fun _ => restarted_restart hp _ _, nofun, nofun⟩
  | queue =>
    rw [retrigger_queue policy]
    exact ⟨⟨rfl, rfl, rfl⟩, others_setPlay s id _, nofun, fun _ => ⟨setPlay_written hp _, rfl, rfl⟩, nofun⟩
  | ignore =>
    rw [retrigger_ignore policy]
    exact ⟨⟨rfl, rfl, rfl⟩, fun _ _ => rfl, nofun, nofun, fun _ => rfl⟩

/-- The policy raises no event, whichever it is. -/
theorem reportOutcome_retrigger (s t : State) (id n : Nat) (p : Play) (source asked : Source) (priority : Nat) :
    t.reportOutcome n asked (s.retrigger id p source priority).2 = t := by
  unfold State.retrigger
  cases (s.recordOf p).policy <;> rfl

theorem put1_put1 {α : Type} {k : Nat} (v : Vector α k) (n : Nat) (x y : α) : put1 (put1 v n x) n y = put1 v n y := by
  cases n with
  | zero => rfl
  | succ i => exact Vector.setIfInBounds_setIfInBounds ..

theorem setPlay_setPlay (s : State) (id : Nat) (x y : Option Play) : (s.setPlay id x).setPlay id y = s.setPlay id y := by
  rw [State.setPlay, State.setPlay, State.setPlay, put1_put1]

/-- What arrived in `v` has arrived in a state like it. -/
theorem restarted_alike {s v w : State} {id j : Nat} {p : Play} {source : Source} {priority : Nat}
    (restarted : Restarted s v j p source priority) (alike : Alike v w id) (other : j ≠ id) (slots : w.slots = v.slots) :
    Restarted s w j p source priority := by
  obtain ⟨play, arrived, stand⟩ := restarted
  refine ⟨(alike.others j other).trans play, fun c hc => ?_, slots.trans stand⟩
  rw [alike.claims, alike.priorityOf]
  exact arrived c hc

/-- The play of record `id`, which stands as `q`, chains to the cue of the ordinary play `r`: the policy is applied to `r`, and
then the play ends (02 R47). -/
theorem chain_applies_policy {s : State} {id j : Nat} {p q r : Play} (hp : s.play id = some p) (cue : q.cue = p.cue)
    (level : q.priority = p.priority) (hr : s.play j = some r) (other : j ≠ id) (priority : Nat) :
    SameEvents s (((s.setPlay id (some q)).retrigger j r .chain priority).1.endPlay id) ∧
      ∃ m, PlaySide s m ∧ SameEvents s m ∧ OtherPlaysStand s m j ∧
        ((s.recordOf r).policy = .restart → Restarted s m j r .chain priority) ∧
        ((s.recordOf r).policy = .queue →
          m.play j = some { r with pendingRestart := true } ∧ m.claims = s.claims ∧ m.slots = s.slots) ∧
        ((s.recordOf r).policy = .ignore → m = s) ∧
        OtherPlaysStand m (((s.setPlay id (some q)).retrigger j r .chain priority).1.endPlay id) id ∧
        Ended m (((s.setPlay id (some q)).retrigger j r .chain priority).1.endPlay id) id p := by
  have hr' : (s.setPlay id (some q)).play j = some r := (others_setPlay s id _ j other).trans hr
  have frame := playFrame_retrigger (s.setPlay id (some q)) j r .chain priority
  obtain ⟨events, others, restart, queue, ignore⟩ := retrigger_spec hr' .chain priority
  generalize ((s.setPlay id (some q)).retrigger j r .chain priority).1 = v at *
  have hv : v.play id = some q := (others id other.symm).trans (setPlay_written hp _)
  have back : Alike v (v.setPlay id (some p)) id := alike_setPlay hv cue.symm level.symm
  refine ⟨events.trans (sameEvents_endPlay v id), v.setPlay id (some p), ?_, events, fun k hk => ?_, fun policy => ?_,
    fun policy => ?_, fun policy => ?_, fun k hk => ?_, ?_⟩
  · exact playSide_of_frame (((playFrame_setPlay s id _).trans frame).trans (playFrame_setPlay v id _))
  · by_cases here : k = id
    · subst here
      exact (setPlay_written hv _).trans hp.symm
    · rw [others_setPlay v id _ k here, others k hk, others_setPlay s id _ k here]
  · exact restarted_alike (restart policy) back other rfl
  · obtain ⟨play, claims, slots⟩ := queue policy
    exact ⟨(others_setPlay v id _ j other).trans play, claims, slots⟩
  · rw [ignore policy, setPlay_setPlay, setPlay_self hp]
  · rw [others_endPlay v id k hk, others_setPlay v id _ k hk]
  · have ended := ended_endPlay hv
    unfold Ended at ended ⊢
    rw [cue] at ended
    exact ended

/-! ## Where a chain leads, for the play that has reached the end of its profile -/

section
variable {s : State} {id target : Nat} {p q : Play} (hp : s.play id = some p) (cue : q.cue = p.cue)
include hp cue

theorem ended_rewritten : OtherPlaysStand s ((s.setPlay id (some q)).endPlay id) id ∧
    Ended s ((s.setPlay id (some q)).endPlay id) id p := by
  have ended := ended_endPlay (setPlay_written hp (some q))
  unfold Ended at ended ⊢
  rw [cue] at ended
  refine ⟨fun j other => ?_, ended⟩
  rw [others_endPlay _ id j other, others_setPlay s id _ j other]

/-- A chain that fails ends the play, with CHAIN_FAILED (02 R45). -/
theorem failChain_rewritten : OtherPlaysStand s ((s.setPlay id (some q)).failChain id) id ∧
    Ended s ((s.setPlay id (some q)).failChain id) id p ∧
      ((s.setPlay id (some q)).failChain id).flags = s.flags ||| 0x0008 ∧
      ((s.setPlay id (some q)).failChain id).lastRefusal = s.lastRefusal ∧
      ((s.setPlay id (some q)).failChain id).lastEviction = s.lastEviction := by
  obtain ⟨flags, refusal, eviction⟩ := sameEvents_endPlay (s.setPlay id (some q)) id
  obtain ⟨others, ended⟩ := ended_rewritten hp cue
  exact ⟨others, ended, congrArg (fun f : EventSet => f ||| 0x0008) flags, refusal, eviction⟩

/-- A chain to the cue of the fallback play is refused, and the chaining play ends (02 R46, R47). -/
theorem chainToBusy_guarded {j : Nat} {r : Play} (found : (s.setPlay id (some q)).playOf target = some j)
    (hr : (s.setPlay id (some q)).play j = some r) (fallback : r.source = .fallback) :
    OtherPlaysStand s ((s.setPlay id (some q)).chainToBusy id target) id ∧
      Ended s ((s.setPlay id (some q)).chainToBusy id target) id p ∧
      ((s.setPlay id (some q)).chainToBusy id target).flags = s.flags ||| 0x0002 ∧
      ((s.setPlay id (some q)).chainToBusy id target).lastRefusal = some ⟨target, .chain, .cueProtected, 0⟩ ∧
      ((s.setPlay id (some q)).chainToBusy id target).lastEviction = s.lastEviction := by
  have refused : (s.setPlay id (some q)).chainToBusy id target =
      ((s.setPlay id (some q)).raiseRefused ⟨target, .chain, .cueProtected, 0⟩).endPlay id := by
    rw [State.chainToBusy, triggerFrom6_found found hr, if_pos fallback]
    rfl
  have ended := ended_endPlay (s := (s.setPlay id (some q)).raiseRefused ⟨target, .chain, .cueProtected, 0⟩)
    (setPlay_written hp (some q))
  obtain ⟨flags, refusal, eviction⟩ := sameEvents_endPlay ((s.setPlay id (some q)).raiseRefused ⟨target, .chain, .cueProtected, 0⟩) id
  unfold Ended at ended ⊢
  rw [cue] at ended
  rw [refused]
  exact ⟨fun j other => (others_endPlay _ id j other).trans (others_setPlay s id _ j other), ended, flags, refusal, eviction⟩

end

theorem chainToBusy_ordinary {s : State} {id target j : Nat} {r : Play} (found : s.playOf target = some j)
    (hr : s.play j = some r) (ordinary : r.source ≠ .fallback) : s.chainToBusy id target =
      (s.retrigger j r .chain (s.slot target).record.priority).1.endPlay id := by
  rw [State.chainToBusy, triggerFrom6_found found hr, if_neg ordinary, reportOutcome_retrigger]
  rfl

/-- The handover to a cue without a play, read from a state that is like the one it came in. -/
theorem playMade_handover {s m : State} {id target : Nat} {q : Play} {marks : List Nat} (alike : Alike s m id)
    (absent : s.playOf target = none) (plays : ∀ e ∈ marks, (s.play e).isSome = true) (nodup : marks.Nodup)
    (check : s.admissionCheck (s.slot target).record.channelNumbers (q.chainPriority (s.slot target).record.priority)
      (some id) = .admits marks) :
    PlayMade s (m.handover id q target) target q.chainSource (q.chainPriority (s.slot target).record.priority) marks
      (id :: marks) id := by
  obtain ⟨x, y, -, hy, -⟩ := alike.here
  have plays' (e : Nat) (he : e ∈ marks) : (m.play e).isSome = true := by
    obtain ⟨z, hz⟩ := Option.isSome_iff_exists.mp (plays e he)
    obtain ⟨w, hw, -⟩ := alike.play_cue hz
    exact Option.isSome_of_eq_some hw
  rw [← alike.check, ← alike.slots] at check
  rw [handover_admits check, ← alike.slots]
  exact alike.made (playMade_handedOver ((alike.playOf target).trans absent) (id_of_play m id y hy) plays' nodup _ _)

/-- Settles O38: the chain read case by case, from the state in which the play has reached its stop step. -/
theorem chainsFailRestartApplyThePolicyOrHandOver : Obligations.ChainsFailRestartApplyThePolicyOrHandOver := by
  intro s id target p i hp thawed profile held action r source priority
  obtain ⟨q, ends⟩ : ∃ q, EndsProfile s id p q i := by
    rcases profile with ⟨hi, phase⟩ | ⟨hi, phase, short, last⟩
    · exact ⟨p, .inl ⟨hi, phase, rfl⟩⟩
    · exact ⟨_, .inr ⟨hi, phase, short, last, rfl⟩⟩
  refine ⟨endsProfile_quiet ends hp, fun zero => ?_⟩
  have comes := endsProfile_comes ends hp thawed zero
  obtain ⟨⟨step, hq⟩, before⟩ := endsProfile_step ends
  have cue : q.cue = p.cue := by rw [hq]; rfl
  have level : q.priority = p.priority := by rw [hq]; rfl
  have record : s.recordOf q = s.recordOf p := by rw [State.recordOf, cue]; rfl
  have chainSource : q.chainSource = source := by rw [hq]; rfl
  have chainPriority : q.chainPriority = priority := by rw [hq]; rfl
  have origin : q.source = p.source := by rw [hq]; rfl
  have chains : (s.setPlay id (some q)).endAction id q = (s.setPlay id (some q)).chain id q target := by
    rw [endAction_steady (by rw [cue, held]; exact nofun), record, action]
  have alike : Alike s (s.setPlay id (some q)) id := alike_setPlay hp cue level
  have frame : PlayFrame s ((s.setPlay id (some q)).chain id q target) :=
    (playFrame_setPlay s id _).trans (playFrame_chain _ id q target)
  have apart {j : Nat} {r : Play} (found : s.playOf target = some j) (hr : s.play j = some r) (other : target ≠ p.cue) :
      j ≠ id := by
    rintro rfl
    obtain rfl := Option.some.inj (hp.symm.trans hr)
    exact other (cue_of_playOf found hr).symm
  rw [chains] at comes
  refine ⟨_, comes, playSide_drive frame, follows_drive frame, fun gone => ?unheld, fun held own => ?self,
    fun j q' held other found hr => ⟨fun ordinary => ⟨fun fallback => ?guarded, fun free => ?policy⟩,
      fun fallback kept claims => ?superseded⟩,
    fun held other absent => ⟨fun c check => ?fails, fun marks check sound => ?handed⟩⟩
  case unheld =>
    rw [chain_unheld (s := s.setPlay id (some q)) gone]
    exact failChain_rewritten hp cue
  case self =>
    have again : (s.setPlay id (some q)).chain id q target =
        (s.setPlay id (some q)).restart id source (priority (s.recordOf p).priority) := by
      rw [own, ← cue, chain_self (by rw [cue]; exact own ▸ held), chainSource, chainPriority, ← record]
      rfl
    have hm := setPlay_written hp (some q)
    have restarted := restarted_restart hm source (priority (s.recordOf p).priority)
    unfold Restarted at restarted
    rw [show (s.setPlay id (some q)).recordOf q = s.recordOf p from record, cue] at restarted
    rw [again]
    exact ⟨fun j hj => (others_restart hm _ _ j hj).trans (others_setPlay s id _ j hj), sameEvents_restart hm _ _, restarted⟩
  case guarded =>
    rw [chain_found (s := s.setPlay id (some q)) held (cue ▸ other) ((alike.playOf target).trans found),
      if_neg (origin ▸ ordinary)]
    exact chainToBusy_guarded hp cue ((alike.playOf target).trans found) ((alike.others j (apart found hr other)).trans hr) fallback
  case policy =>
    rw [chain_found (s := s.setPlay id (some q)) held (cue ▸ other) ((alike.playOf target).trans found),
      if_neg (origin ▸ ordinary), chainToBusy_ordinary ((alike.playOf target).trans found)
        ((alike.others j (apart found hr other)).trans hr) free]
    have applied := chain_applies_policy hp cue level hr (apart found hr other) r.priority
    rw [recordOf_of_playOf found hr] at applied
    exact applied
  case superseded =>
    have engine := ((fallbackKept_iff s).mp kept).1
    have agree := ((claimsKept_iff s).mp claims).1
    have last : id = 24 := by
      by_contra ordinary
      exact ((keptIn_ordinary ordinary).mp (engine.1 id p hp)).1 fallback
    have slot : (s.endPlay j).slot target = s.slot target := by
      rw [slot_endPlay hr, if_neg fun both => by rw [held] at both; exact nomatch both.2]
    have sixteen (own : Nat) : priority own = 16 := if_pos fallback
    have source' : source = .fallback := if_pos fallback
    obtain ⟨marks, check⟩ := check_at_16_admits (engineKept_endPlay engine j) r.channelNumbers
      (absent := some id) (.inl (congrArg some last))
    obtain ⟨plays, nodup⟩ := marks_of_check (claimsAgree_endPlay agree j) check
    have made := playMade_handover (q := q) (alike.endPlay (apart found hr other)) (playOf_vacated (.ended found) agree) plays
      nodup (by rw [slot, chainPriority, sixteen]; exact check)
    rw [chainSource, chainPriority, sixteen, source'] at made
    rw [chain_found (s := s.setPlay id (some q)) held (cue ▸ other) ((alike.playOf target).trans found),
      if_pos (origin.trans fallback)]
    exact ⟨s.endPlay j, marks, playSide_of_frame (playFrame_endPlay s j), sameEvents_endPlay s j, others_endPlay s j,
      ended_endPlay hr, check, made⟩
  case fails =>
    rw [chain_absent (s := s.setPlay id (some q)) held (cue ▸ other) ((alike.playOf target).trans absent),
      handover_fails (c := c) (by rw [alike.check, chainPriority]; exact check)]
    exact failChain_rewritten hp cue
  case handed =>
    obtain ⟨plays, nodup⟩ : (∀ e ∈ marks, (s.play e).isSome = true) ∧ marks.Nodup := by
      rcases sound with rfl | claims
      · exact ⟨nofun, .nil⟩
      · exact marks_of_check ((claimsKept_iff s).mp claims).1 check
    have made := playMade_handover (q := q) alike absent plays nodup (by rw [chainPriority]; exact check)
    rw [chainSource, chainPriority] at made
    rw [chain_absent (s := s.setPlay id (some q)) held (cue ▸ other) ((alike.playOf target).trans absent)]
    exact made

end Sys2Proof.Machine
end

section
/-! Fallback: how it is entered when the watchdog expires (07 R151 to R155). -/

namespace Sys2Proof.Machine

/-! ## A play at priority 16 stands first -/

theorem place_first {higher : Nat → Bool} (none : ∀ j, higher j = false) (id : Nat) (l : List Nat) :
    place higher id l = id :: l := by
  cases l with
  | nil => rfl
  | cons x xs => exact if_neg (by simp [none])

theorem priorityOf_le_16 {s : State} (engine : EngineKept s) (j : Nat) : s.priorityOf j ≤ 16 := by
  cases hp : s.play j with
  | none => rw [State.priorityOf, hp]; decide
  | some p =>
    have kept := engine.1 j p hp
    rw [priorityOf_of_play hp]
    by_cases last : j = 24
    · subst last
      exact (keptIn_fallback.mp kept).2.1.le
    · exact ((keptIn_ordinary last).mp kept).2.trans (by decide)

/-- A play filled in at priority 16 heads the lists of its channels. -/
theorem claimList_filled_first {s : State} {n : Nat} {source : Source} (engine : EngineKept (s.fillRecord 24 n source 16))
    {c : Nat} (hc : c ∈ channelIds) : (s.fillRecord 24 n source 16).claimList c =
      if c ∈ (s.slot n).record.channelNumbers then 24 :: (s.claimList c).filter (· != 24) else s.claimList c := by
  rw [claimList_fillRecord s (by decide) _ _ _ hc]
  congr 1
  exact place_first (fun j => decide_eq_false (Nat.not_lt.mpr (priorityOf_le_16 engine j))) _ _

/-! ## The fallback play is made (07 R153, R154) -/

theorem makeFallback_found {s : State} {n id : Nat} {p : Play} (found : s.playOf n = some id) (hp : s.play id = some p) :
    s.makeFallback n = ((s.setPlay id none).renameClaims id 24).fillRecord 24 n .fallback 16 := by
  rw [State.makeFallback, found]
  dsimp only
  rw [hp]
  dsimp only
  rw [convert_eq_fillRecord, cue_of_playOf found hp]

theorem makeFallback_absent {s : State} {n : Nat} {marks : List Nat} (absent : s.playOf n = none)
    (check : s.admissionCheck (s.slot n).record.channelNumbers 16 = .admits marks) :
    s.makeFallback n = (s.evictAll n marks).fillRecord 24 n .fallback 16 := by
  have admits : s.admissionCheck (s.slot n).record.channelNumbers Config.fallbackPriority = .admits marks := check
  rw [State.makeFallback, absent]
  dsimp only
  rw [State.admitFallback, admits]
  rfl

/-- Record 24 is filled, over a state in which the cue's slot and the last refusal stand. -/
def Fills (s u : State) (n : Nat) : Prop :=
  ∃ x : State, u = x.fillRecord 24 n .fallback 16 ∧ x.slot n = s.slot n ∧ x.lastRefusal = s.lastRefusal

theorem fills_makeFallback {s : State} (engine : EngineKept s) (empty : s.play 24 = none) {n : Nat}
    (held : (s.slot n).status = .held) : Fills s (s.makeFallback n) n := by
  cases found : s.playOf n with
  | none =>
    obtain ⟨marks, check⟩ := check_at_16_admits engine (s.slot n).record.channelNumbers (absent := none) (.inr empty)
    refine ⟨_, makeFallback_absent found check, ?_, lastRefusal_evictAll s n marks⟩
    rw [slot_evictAll, if_neg fun both => by rw [held] at both; exact nomatch both.1]
  | some id =>
    obtain ⟨-, p, hp, -⟩ := playOf_some found
    exact ⟨_, makeFallback_found found hp, rfl, rfl⟩

theorem fallbackMade_makeFallback {s : State} (engine : EngineKept s) (agree : ClaimsAgree s) (empty : s.play 24 = none)
    (on : s.fallbackOn = true) (n : Nat) : FallbackMade s (s.makeFallback n) n := by
  refine ⟨fun id p found hp => ?_, fun absent => ?_⟩
  · have engine' := engineKept_playActs (playActs_makeFallback n empty on) engine
    have other : id ≠ 24 := by
      rintro rfl
      exact nomatch empty.symm.trans hp
    have plays := play_fillRecord ((s.setPlay id none).renameClaims id 24) (id := 24) (by decide) n .fallback 16
    rw [makeFallback_found found hp] at engine' ⊢
    have moved (j : Nat) : ((s.setPlay id none).renameClaims id 24).play j = if j = id then none else s.play j :=
      play_setPlay_of_play hp j none
    refine ⟨sameEvents_fillRecord _ _ _ _ _, fillRecord_slots _ _ _ _ _, (plays 24).trans (if_pos rfl), ?_, fun j hj h24 => ?_,
      fun c hc => ?_⟩
    · rw [plays, if_neg other, moved, if_pos rfl]
    · rw [plays, if_neg h24, moved, if_neg hj]
    · have fresh : 24 ∉ s.claimList c := no_claim_of_no_play agree hc empty
      have list : ((s.setPlay id none).renameClaims id 24).claimList c =
          (s.claimList c).map fun j => if j = id then 24 else j := claimList_renameClaims _ id 24 c
      rw [claimList_filled_first engine' hc, list, filter_rename fresh]
      refine ite_congr rfl (fun _ => rfl) fun off => ?_
      have unclaimed : id ∉ s.claimList c := fun claim => off <| by
        have on := ((agree.2 c hc).claims id p trivial hp).mp claim
        rw [recordOf_of_playOf found hp] at on
        exact on
      refine (List.map_congr_left fun j hj => if_neg ?_).trans (List.map_id' _)
      rintro rfl
      exact unclaimed hj
  · obtain ⟨marks, check⟩ := check_at_16_admits engine (s.slot n).record.channelNumbers (absent := none) (.inr empty)
    obtain ⟨plays, nodup⟩ := marks_of_check agree check
    rw [makeFallback_absent absent check]
    exact ⟨marks, check, playMade_admitted absent (by decide) plays nodup .fallback 16⟩

/-! ## The entry's last step (07 R151, R155) -/

theorem fallbackUsable_iff (s : State) : s.fallbackUsable = true ↔
    1 ≤ s.config.fallbackCue ∧ (s.slot s.config.fallbackCue).status = .held := by
  rw [State.fallbackUsable, Bool.and_eq_true, bne_iff_ne, beq_iff_eq, Nat.one_le_iff_ne_zero]

theorem settleFallback_unusable {s : State} (unusable : ¬s.fallbackUsable = true) : s.settleFallback = s := by
  rw [State.settleFallback, Bool.not_eq_true] at *
  rw [unusable]
  rfl

theorem settleFallback_usable {s : State} (usable : s.fallbackUsable = true) : s.settleFallback =
    match s.play 24 with
    | none => s.makeFallback s.config.fallbackCue
    | some p =>
      if p.cue = s.config.fallbackCue then s.restart 24 .fallback 16
      else (s.endPlay 24).makeFallback s.config.fallbackCue := by
  rw [State.settleFallback, usable]
  rfl

/-- With the fallback cue usable record 24 is filled, whatever stood there. -/
theorem fills_settleFallback {s : State} (engine : EngineKept s) (usable : s.fallbackUsable = true) :
    Fills s s.settleFallback s.config.fallbackCue := by
  obtain ⟨-, held⟩ := (fallbackUsable_iff s).mp usable
  rw [settleFallback_usable usable]
  cases hp : s.play 24 with
  | none => exact fills_makeFallback engine hp held
  | some p =>
    dsimp only
    split
    · next own => exact ⟨s, by rw [restart_eq_fillRecord hp, own], rfl, rfl⟩
    · have slot : (s.endPlay 24).slot s.config.fallbackCue = s.slot s.config.fallbackCue := by
        rw [slot_endPlay hp, if_neg fun both => by rw [held] at both; exact nomatch both.2]
      obtain ⟨x, filled, slots, refusal⟩ :=
        fills_makeFallback (engineKept_endPlay engine 24) (play_endPlay s 24) (by rw [slot]; exact held)
      exact ⟨x, filled, slots.trans slot, refusal.trans (sameEvents_endPlay s 24).2.1⟩

/-- What stands after the entry's last step, of a part whose flag has just gone on. -/
theorem settleFallback_spec {s : State} (engine : EngineKept s) (on : s.fallbackOn = true) (usable : s.fallbackUsable = true) :
    s.settleFallback.lastRefusal = s.lastRefusal ∧
      s.settleFallback.play 24 = some ((s.slot s.config.fallbackCue).record.begin s.config.fallbackCue .fallback 16) ∧
      (∀ c ∈ channelIds, c ∈ (s.slot s.config.fallbackCue).record.channelNumbers →
        (s.settleFallback.claimList c).head? = some 24) ∧
      (∀ p, s.play 24 = some p → p.cue = s.config.fallbackCue →
        SameEvents s s.settleFallback ∧ OtherPlaysStand s s.settleFallback 24 ∧
          Restarted s s.settleFallback 24 p .fallback 16) ∧
      (ClaimsAgree s →
        (s.play 24 = none → FallbackMade s s.settleFallback s.config.fallbackCue) ∧
        ∀ p, s.play 24 = some p → p.cue ≠ s.config.fallbackCue →
          FallbackMade (s.endPlay 24) s.settleFallback s.config.fallbackCue) := by
  have engine' := engineKept_playActs (playActs_settleFallback on) engine
  have settled := settleFallback_usable usable
  obtain ⟨x, filled, slot, refusal⟩ := fills_settleFallback engine usable
  refine ⟨?_, ?_, fun c hc here => ?_, fun p hp own => ?_, fun agree => ⟨fun empty => ?_, fun p hp other => ?_⟩⟩
  · rw [filled, (sameEvents_fillRecord _ _ _ _ _).2.1, refusal]
  · rw [filled, play_fillRecord _ (by decide), if_pos rfl, slot]
  · rw [filled] at engine' ⊢
    rw [claimList_filled_first engine' hc, slot, if_pos here]
    rfl
  · rw [hp] at settled
    rw [settled.trans (if_pos own)]
    exact ⟨sameEvents_restart hp _ _, others_restart hp _ _, restarted_restart hp _ _⟩
  · rw [empty] at settled
    rw [settled]
    exact fallbackMade_makeFallback engine agree empty on _
  · rw [hp] at settled
    rw [settled.trans (if_neg other)]
    exact fallbackMade_makeFallback (engineKept_endPlay engine 24) (claimsAgree_endPlay agree 24) (play_endPlay s 24)
      ((playFrame_endPlay s 24).fallbackOn.trans on) _

/-- Settles O40: the entry's first steps, and what its last one makes of record 24. -/
theorem watchdogExpiryEntersFallback : Obligations.WatchdogExpiryEntersFallback := by
  refine fun s => ⟨fun running => congrArg done (if_neg running), fun out kept => ?_⟩
  intro cue entered
  have engine : EngineKept entered := engineKept_fallbackEntered ((fallbackKept_iff s).mp kept).1
  have run : PlayActs entered entered.settleFallback := playActs_settleFallback rfl
  have frame := run.frame
  have answer : exec .watchdogExpiry s = .next entered.settleFallback.drive := congrArg done (if_pos out)
  have raised : entered.settleFallback.flags.getLsbD 9 = true := flagsStay_playActs run 9 (by simp [entered])
  have refusal : entered.settleFallback.lastRefusal = s.lastRefusal := by
    by_cases usable : entered.fallbackUsable = true
    · exact (settleFallback_spec engine rfl usable).1
    · rw [settleFallback_unusable usable]
  refine ⟨_, answer, frame.fallbackOn, frame.entryCount, ?_, raised, frame.watchdog, frame.config, frame.store, refusal,
    playSide_drive frame, channelsFollow_drive frame.channels, fun usable => ?_, fun unusable => ?_⟩
  · rw [drive_frame, frame]
  · obtain ⟨-, play, heads, own, made⟩ := settleFallback_spec engine rfl ((fallbackUsable_iff entered).mpr usable)
    refine ⟨play, heads, own, fun claims => ?_⟩
    have agree : ClaimsAgree entered := claimsAgree_of_same ((claimsKept_iff s).mp claims).1 rfl rfl rfl
    obtain ⟨empty, other⟩ := made agree
    exact ⟨empty, fun p hp differs => ⟨entered.endPlay 24, playSide_of_frame (playFrame_endPlay entered 24),
      sameEvents_endPlay entered 24, others_endPlay entered 24, ended_endPlay (s := entered) hp, other p hp differs⟩⟩
  · rw [settleFallback_unusable (mt (fallbackUsable_iff entered).mp unusable)]
    exact ⟨rfl, rfl, rfl, rfl, rfl⟩

end Sys2Proof.Machine
end

section
/-! The bytes of records, and their reading back (09 section 9.4, R174). -/

namespace Sys2Proof.Machine

/-! ## Numbers and enumerations -/

theorem toNat_byte {n : Nat} (h : n < 256) : (byte n).toNat = n := Nat.mod_eq_of_lt h

theorem readRange_byte {lo hi n : Nat} (h : lo ≤ n ∧ n ≤ hi) (small : hi < 256) : readRange lo hi (byte n) = some n := by
  rw [readRange, toNat_byte (by omega), if_pos h]

theorem readCurve_code (c : Curve) : readCurve c.code = some c := by cases c <;> rfl

theorem readPolicy_code (p : Policy) : readPolicy p.code = some p := by cases p <;> rfl

theorem readKind_code (k : EventKind) : readKind k.code = some k := by cases k <;> rfl

theorem readAction_code (a : PatternAction) : readAction a.code = some a := by cases a <;> rfl

theorem readBool_byte (b : Bool) : readBool (byteOfBool b) = some b := by cases b <;> rfl

theorem readUnit_byte (u : Fin 8) : readUnit (byte u.val) = some u := by revert u; decide

/-- The parameter of an end action is in its range (01 R7). -/
def EndAction.Valid : EndAction → Prop
  | .sustain => True
  | .release => True
  | .repeating n => n ≤ 15
  | .chain t => 1 ≤ t ∧ t ≤ 64

theorem readEndAction_code {a : EndAction} (valid : a.Valid) : readEndAction a.code (byte a.parameter) = some a := by
  cases a with
  | sustain | release => rfl
  | repeating n =>
    have small : n ≤ 15 := valid
    have number := toNat_byte (n := n) (by omega)
    show (if (byte n).toNat ≤ 15 then some (EndAction.repeating (byte n).toNat) else none) = _
    rw [number, if_pos small]
  | chain t =>
    have range : 1 ≤ t ∧ t ≤ 64 := valid
    have number := toNat_byte (n := t) (by omega)
    show (if 1 ≤ (byte t).toNat ∧ (byte t).toNat ≤ 64 then some (EndAction.chain (byte t).toNat) else none) = _
    rw [number, if_pos range]

theorem valid_of_readEndAction {b parameter : Byte} {a : EndAction} (h : readEndAction b parameter = some a) : a.Valid := by
  unfold readEndAction at h
  dsimp only at h
  split at h
  · split_ifs at h
    obtain rfl := Option.some.inj h
    trivial
  · split_ifs at h
    obtain rfl := Option.some.inj h
    trivial
  · split_ifs at h with small
    obtain rfl := Option.some.inj h
    exact small
  · split_ifs at h with range
    obtain rfl := Option.some.inj h
    exact range
  · exact nomatch h

/-! ## Lists of entries -/

theorem readEntries_bytes : ∀ (es : List ChannelEntry) (last : Nat) (rest : List Byte),
    (∀ e ∈ es, last < e.channel ∧ e.channel ≤ 16) → (es.Pairwise fun a b => a.channel < b.channel) →
    readEntries es.length last (es.flatMap (fun e => [byte e.channel, e.scale]) ++ rest) = some (es, rest)
  | [], _, _, _, _ => rfl
  | e :: es, last, rest, range, ascending => by
    obtain ⟨above, pairwise⟩ := List.pairwise_cons.mp ascending
    have here := range e (List.mem_cons_self ..)
    have number := toNat_byte (n := e.channel) (by omega)
    have tail := readEntries_bytes es e.channel rest
      (fun f hf => ⟨above f hf, (range f (List.mem_cons_of_mem _ hf)).2⟩) pairwise
    show (if last < (byte e.channel).toNat ∧ (byte e.channel).toNat ≤ 16 then
      (readEntries es.length (byte e.channel).toNat (es.flatMap (fun e => [byte e.channel, e.scale]) ++ rest)).map
        fun r => ((⟨(byte e.channel).toNat, e.scale⟩ : ChannelEntry) :: r.1, r.2) else none) = _
    rw [number, if_pos here, tail]
    rfl

theorem readEntries_sound : ∀ (n last : Nat) (bs : List Byte) (r : List ChannelEntry × List Byte),
    readEntries n last bs = some r →
      r.1.length = n ∧ (∀ e ∈ r.1, last < e.channel ∧ e.channel ≤ 16) ∧ r.1.Pairwise fun a b => a.channel < b.channel
  | 0, _, _, _, h => by
    obtain rfl := Option.some.inj h
    exact ⟨rfl, nofun, .nil⟩
  | n + 1, last, [], _, h => nomatch h
  | n + 1, last, [_], _, h => nomatch h
  | n + 1, last, c :: scale :: rest, r, h => by
    rw [readEntries] at h
    split_ifs at h with range
    obtain ⟨tail, ht, rfl⟩ := Option.map_eq_some_iff.mp h
    obtain ⟨length, inside, pairwise⟩ := readEntries_sound n c.toNat rest tail ht
    refine ⟨congrArg (· + 1) length, fun e he => ?_, List.pairwise_cons.mpr ⟨fun e he => (inside e he).1, pairwise⟩⟩
    rcases List.mem_cons.mp he with rfl | later
    · exact range
    · exact ⟨range.1.trans (inside e later).1, (inside e later).2⟩

theorem readElements_bytes : ∀ (es : List InputEvent) (rest : List Byte), (∀ e ∈ es, 1 ≤ e.line ∧ e.line ≤ 8) →
    readElements es.length (es.flatMap (fun e => [byte e.line, e.kind.code]) ++ rest) = some (es, rest)
  | [], _, _ => rfl
  | e :: es, rest, range => by
    have tail := readElements_bytes es rest fun f hf => range f (List.mem_cons_of_mem _ hf)
    have line := readRange_byte (range e (List.mem_cons_self ..)) (by decide)
    rw [List.flatMap_cons]
    simp only [List.length_cons, List.cons_append, List.nil_append, readElements, line, readKind_code, tail]

theorem readElements_sound : ∀ (n : Nat) (bs : List Byte) (r : List InputEvent × List Byte), readElements n bs = some r →
    r.1.length = n ∧ ∀ e ∈ r.1, 1 ≤ e.line ∧ e.line ≤ 8
  | 0, _, _, h => by
    obtain rfl := Option.some.inj h
    exact ⟨rfl, nofun⟩
  | n + 1, [], _, h => nomatch h
  | n + 1, [_], _, h => nomatch h
  | n + 1, l :: kind :: rest, r, h => by
    rw [readElements] at h
    split at h
    · next line k tail hl _ ht =>
      obtain rfl := Option.some.inj h
      obtain ⟨length, inside⟩ := readElements_sound n rest tail ht
      refine ⟨congrArg (· + 1) length, fun e he => ?_⟩
      rcases List.mem_cons.mp he with rfl | later
      · exact readRange_le hl
      · exact inside e later
    · exact nomatch h

/-! ## Cue records -/

/-- The bytes of a cue record between its label and its trim (09 section 9.4). -/
def CueRecord.bodyBytes (r : CueRecord) : List Byte :=
  [byte r.priority, r.curve.code, r.startStep, r.stopStep, r.stepPeriod, r.delay.count, byte r.delay.unit.val,
    r.hold.count, byte r.hold.unit.val, r.endAction.code, byte r.endAction.parameter, r.policy.code, r.releaseFade,
    byte r.channels.length] ++ r.channels.flatMap fun e => [byte e.channel, e.scale]

theorem bytes_eq_body (r : CueRecord) : r.bytes = byte r.label.length :: (r.label ++ r.bodyBytes) ++ [r.trim] := by
  simp [CueRecord.bytes, CueRecord.bodyBytes]

theorem bytes_dropLast (r : CueRecord) : r.bytes.dropLast = byte r.label.length :: (r.label ++ r.bodyBytes) := by
  rw [bytes_eq_body, List.dropLast_concat]

theorem endAction_valid {r : CueRecord} (valid : r.Valid) : r.endAction.Valid := by
  obtain ⟨-, -, -, -, -, -, -, action⟩ := valid
  cases h : r.endAction <;> rw [h] at action <;> exact action

theorem readRecordBody_bytes {r : CueRecord} (valid : r.Valid) {announced : Bool} {rest : List Byte} {trim : Byte}
    (ends : readTrim announced rest = some trim) :
    readRecordBody r.label announced (r.bodyBytes ++ rest) = some { r with trim := trim } := by
  have action := readEndAction_code (endAction_valid valid)
  obtain ⟨-, -, priority, period, count, channels, ascending, -⟩ := valid
  have entries := readEntries_bytes r.channels 0 rest (fun e he => ⟨(channels e he).1, (channels e he).2⟩) ascending
  simp only [CueRecord.bodyBytes, List.cons_append, List.nil_append, readRecordBody,
    readRange_byte ⟨Nat.zero_le _, priority⟩ (by decide), readRange_byte count (by decide), readCurve_code, readUnit_byte,
    readPolicy_code, action, entries, ends, Option.bind_eq_bind, Option.bind_some, if_neg period]

theorem readRecord_bytes {r : CueRecord} (valid : r.Valid) {announced : Bool} {rest : List Byte} {trim : Byte}
    (ends : readTrim announced rest = some trim) :
    readRecord announced (byte r.label.length :: (r.label ++ r.bodyBytes) ++ rest) = some { r with trim := trim } := by
  have record := readRecordBody_bytes valid ends
  obtain ⟨length, printables, -⟩ := valid
  have number := toNat_byte (n := r.label.length) (by omega)
  have all : r.label.all printable = true := by
    rw [List.all_eq_true]
    intro b hb
    simpa [printable] using printables b hb
  rw [List.cons_append, List.append_assoc, readRecord]
  simp only [number, List.take_left, List.drop_left]
  rw [if_pos ⟨length, trivial, all⟩]
  exact record

theorem readRecordBody_sound {label : List Byte} {announced : Bool} {bs : List Byte} {r : CueRecord}
    (h : readRecordBody label announced bs = some r) (length : label.length ≤ 8)
    (printables : ∀ b ∈ label, 0x20 ≤ b.toNat ∧ b.toNat ≤ 0x7E) : r.Valid := by
  unfold readRecordBody at h
  split at h
  · simp only [Option.bind_eq_bind, Option.bind_eq_some_iff] at h
    obtain ⟨priority, hpriority, curve, -, delayUnit, -, holdUnit, -, action, haction, policy, -, count, hcount, entries,
      hentries, trim, -, h⟩ := h
    split_ifs at h with period
    obtain rfl := Option.some.inj h
    obtain ⟨number, channels, ascending⟩ := readEntries_sound count 0 _ entries hentries
    refine ⟨length, printables, (readRange_le hpriority).2, period, ?_, fun e he => ⟨(channels e he).1, (channels e he).2⟩,
      ascending, ?_⟩
    · rw [number]; exact readRange_le hcount
    · have valid := valid_of_readEndAction haction
      cases action <;> exact valid
  · exact nomatch h

theorem readRecord_sound {announced : Bool} {bs : List Byte} {r : CueRecord} (h : readRecord announced bs = some r) :
    r.Valid := by
  cases bs with
  | nil => exact nomatch h
  | cons len rest =>
    rw [readRecord] at h
    split_ifs at h with label
    obtain ⟨short, length, all⟩ := label
    refine readRecordBody_sound h (length.trans_le short) fun b hb => ?_
    simpa [printable] using List.all_eq_true.mp all b hb

/-! ## WRITE_CUE (09 R174) -/

section
variable {n : Nat} (low : 1 ≤ n) (high : n ≤ 64) (rest : List Byte) (rev : Byte)
include low high

theorem readWriteCue_3 : readWriteCue (byte n :: 3 :: rev :: rest) =
    (readRecord true rest).map fun r => ⟨n, some rev, r⟩ := by
  rw [readWriteCue, readRange_byte ⟨low, high⟩ (by decide)]
  rfl

theorem readWriteCue_2 : readWriteCue (byte n :: 2 :: rest) = (readRecord true rest).map fun r => ⟨n, none, r⟩ := by
  rw [readWriteCue, readRange_byte ⟨low, high⟩ (by decide)]
  rfl

theorem readWriteCue_1 : readWriteCue (byte n :: 1 :: rev :: rest) =
    (readRecord false rest).map fun r => ⟨n, some rev, r⟩ := by
  rw [readWriteCue, readRange_byte ⟨low, high⟩ (by decide)]
  rfl

theorem readWriteCue_0 : readWriteCue (byte n :: 0 :: rest) = (readRecord false rest).map fun r => ⟨n, none, r⟩ := by
  rw [readWriteCue, readRange_byte ⟨low, high⟩ (by decide)]
  rfl

end

theorem readWriteCue_sound {payload : List Byte} {w : CueWrite} (h : readWriteCue payload = some w) :
    1 ≤ w.slot ∧ w.slot ≤ 64 ∧ w.record.Valid := by
  unfold readWriteCue at h
  split at h
  · obtain ⟨slot, hslot, h⟩ := Option.bind_eq_some_iff.mp h
    have range := readRange_le hslot
    split_ifs at h
    · split at h
      · exact nomatch h
      · obtain ⟨r, hr, rfl⟩ := Option.map_eq_some_iff.mp h
        exact ⟨range.1, range.2, readRecord_sound hr⟩
    · obtain ⟨r, hr, rfl⟩ := Option.map_eq_some_iff.mp h
      exact ⟨range.1, range.2, readRecord_sound hr⟩
  · exact nomatch h

/-! ## WRITE_PATTERN (06 R130, R141) -/

theorem readWritePattern_bytes {k : Nat} {r : PatternRecord} (low : 1 ≤ k) (high : k ≤ 16) (valid : r.Valid) :
    readWritePattern (byte k :: r.bytes) = some (k, r) := by
  obtain ⟨count, lines, window, cueLow, cueHigh⟩ := valid
  have elements := readElements_bytes r.elements [byte r.window, r.action.code, byte r.cue] lines
  simp only [PatternRecord.bytes, List.cons_append, List.nil_append, readWritePattern,
    readRange_byte ⟨low, high⟩ (by decide), readBool_byte, readRange_byte count (by decide), elements,
    readRange_byte window (by decide), readAction_code, readRange_byte ⟨cueLow, cueHigh⟩ (by decide), Option.bind_eq_bind,
    Option.bind_some]

theorem readWritePattern_sound {payload : List Byte} {w : Nat × PatternRecord} (h : readWritePattern payload = some w) :
    1 ≤ w.1 ∧ w.1 ≤ 16 ∧ w.2.Valid := by
  unfold readWritePattern at h
  split at h
  · simp only [Option.bind_eq_bind, Option.bind_eq_some_iff] at h
    obtain ⟨k, hk, enabled, -, count, hcount, elements, helements, h⟩ := h
    split at h
    · simp only [Option.bind_eq_some_iff] at h
      obtain ⟨window, hwindow, action, -, cue, hcue, h⟩ := h
      obtain rfl := Option.some.inj h
      obtain ⟨number, lines⟩ := readElements_sound count _ elements helements
      have range := readRange_le hk
      exact ⟨range.1, range.2, number ▸ readRange_le hcount, lines, readRange_le hwindow, readRange_le hcue⟩
    · exact nomatch h
  · exact nomatch h

end Sys2Proof.Machine
end

section
/-! SET_CONFIG: one item, and several (09 R175, Table 9.8). -/

namespace Sys2Proof.Machine

/-! ## Lists of entries -/

theorem readEntriesList_nil (fuel : Nat) : readEntriesList fuel [] = some [] := by cases fuel <;> rfl

theorem readEntriesList_cons {fuel : Nat} {b : Byte} {bs : List Byte} : readEntriesList (fuel + 1) (b :: bs) =
    match readEntry (b :: bs) with
    | none => none
    | some (e, rest) => (readEntriesList fuel rest).map (e :: ·) := rfl

/-- A SET_CONFIG of one entry. -/
theorem readSetConfig_one {i : Items} {b : Byte} {bs : List Byte} {e : ConfigEntry} (h : readEntry (b :: bs) = some (e, [])) :
    readSetConfig i (b :: bs) = if (i.apply e).thresholdsOk then some [e] else none := by
  have list : readEntriesList (b :: bs).length (b :: bs) = some [e] := by
    rw [List.length_cons, readEntriesList_cons, h]
    dsimp only
    rw [readEntriesList_nil]
    rfl
  unfold readSetConfig
  rw [list]
  refine if_congr ⟨fun all => all.2.2, fun ok => ⟨nofun, ?_, ok⟩⟩ rfl rfl
  rw [List.map_singleton]
  exact List.nodup_singleton _

theorem readSetConfig_malformed {i : Items} {b : Byte} {bs : List Byte} (h : readEntry (b :: bs) = none) :
    readSetConfig i (b :: bs) = none := by
  unfold readSetConfig
  rw [List.length_cons, readEntriesList_cons, h]

/-! ## Items of one byte -/

/-- The code of an item of one byte: not the group list, and not the attention mask. -/
abbrev PlainCode (code : Nat) : Prop := code < 256 ∧ code ≠ 0x02 ∧ code ≠ 0x60

theorem readEntry_plain {code : Nat} (plain : PlainCode code) (b : Byte) (more : List Byte) :
    readEntry (byte code :: b :: more) = (readItem code b).map fun e => (e, more) := by
  obtain ⟨small, groups, mask⟩ := plain
  unfold readEntry
  dsimp only
  rw [toNat_byte small, if_neg groups, if_neg mask]

/-- What a SET_CONFIG of one item of one byte makes of the items. -/
theorem set_plain {code : Nat} (plain : PlainCode code) (i : Items) (b : Byte) :
    (readSetConfig i [byte code, b]).map i.applyAll =
      (readItem code b).bind fun e => if (i.apply e).thresholdsOk then some (i.apply e) else none := by
  have entry := readEntry_plain plain b []
  cases item : readItem code b with
  | none =>
    rw [item] at entry
    rw [readSetConfig_malformed entry]
    rfl
  | some e =>
    rw [item] at entry
    rw [readSetConfig_one entry, Option.bind_some]
    split <;> rfl

section
variable {i : Items} (agree : i.warn + 10 ≤ i.shutdown) {code : Nat} (plain : PlainCode code) {b : Byte}
include agree plain

/-- An item whose field is no threshold. -/
theorem set_field {α : Type} {operand : Option α} {entry : α → ConfigEntry} (item : readItem code b = operand.map entry)
    (keeps : ∀ v, (i.apply (entry v)).thresholdsOk = i.thresholdsOk) :
    (readSetConfig i [byte code, b]).map i.applyAll = operand.map fun v => i.apply (entry v) := by
  have ok : i.thresholdsOk = true := (thresholdsOk_iff i).mpr agree
  rw [set_plain plain, item, Option.bind_map]
  cases operand with
  | none => rfl
  | some v =>
    show (if (i.apply (entry v)).thresholdsOk = true then _ else _) = _
    rw [keeps, if_pos ok]
    rfl

/-- An item whose field is a number in a range. -/
theorem set_number {lo hi : Nat} {entry : Nat → ConfigEntry} (item : readItem code b = (readRange lo hi b).map entry)
    (keeps : ∀ v, (i.apply (entry v)).thresholdsOk = i.thresholdsOk) :
    (readSetConfig i [byte code, b]).map i.applyAll =
      if lo ≤ b.toNat ∧ b.toNat ≤ hi then some (i.apply (entry b.toNat)) else none := by
  rw [set_field agree plain item keeps, readRange]
  split <;> rfl

end

/-! ## The items, one by one (09 Table 9.8) -/

section
variable {i : Items} (agree : i.warn + 10 ≤ i.shutdown) (b : Byte)
include agree

theorem set_baud : (readSetConfig i [byte 0x03, b]).map i.applyAll = match b.toNat with
    | 0 => some { i with baud := .b19200 } | 1 => some { i with baud := .b38400 } | 2 => some { i with baud := .b57600 }
    | 3 => some { i with baud := .b115200 } | _ => none := by
  rw [set_field agree (by decide) (operand := readBaud b) (entry := .baud) rfl fun _ => rfl, readBaud]
  generalize b.toNat = n
  rcases n with _ | _ | _ | _ | n <;> rfl

theorem set_watchdogUnit : (readSetConfig i [byte 0x11, b]).map i.applyAll = match b.toNat with
    | 0 => some { i with watchdogUnit := .second } | 1 => some { i with watchdogUnit := .minute } | _ => none := by
  rw [set_field agree (by decide) (operand := readWatchdogUnit b) (entry := .watchdogUnit) rfl fun _ => rfl, readWatchdogUnit]
  generalize b.toNat = n
  rcases n with _ | _ | n <;> rfl

theorem set_startPolicy : (readSetConfig i [byte 0x20, b]).map i.applyAll = match b.toNat with
    | 0 => some { i with startPolicy := .dark } | 1 => some { i with startPolicy := .startCue }
    | 2 => some { i with startPolicy := .resumeSet } | _ => none := by
  rw [set_field agree (by decide) (operand := readStartPolicy b) (entry := .startPolicy) rfl fun _ => rfl, readStartPolicy]
  generalize b.toNat = n
  rcases n with _ | _ | _ | n <;> rfl

theorem set_serviceMode : (readSetConfig i [byte 0x23, b]).map i.applyAll = match b.toNat with
    | 0 => some { i with serviceMode := .openMode } | 1 => some { i with serviceMode := .readOnly }
    | 2 => some { i with serviceMode := .silent } | 3 => some { i with serviceMode := .off } | _ => none := by
  rw [set_field agree (by decide) (operand := readServiceMode b) (entry := .serviceMode) rfl fun _ => rfl, readServiceMode]
  generalize b.toNat = n
  rcases n with _ | _ | _ | _ | n <;> rfl

theorem set_deglitch : (readSetConfig i [byte 0x33, b]).map i.applyAll = match b.toNat with
    | 0 => some { i with deglitch := .us50 } | 1 => some { i with deglitch := .us100 }
    | 2 => some { i with deglitch := .us200 } | 3 => some { i with deglitch := .us400 } | _ => none := by
  rw [set_field agree (by decide) (operand := readDeglitch b) (entry := .deglitch) rfl fun _ => rfl, readDeglitch]
  generalize b.toNat = n
  rcases n with _ | _ | _ | _ | n <;> rfl

theorem set_averaging : (readSetConfig i [byte 0x38, b]).map i.applyAll = match b.toNat with
    | 4 => some { i with averaging := .n4 } | 8 => some { i with averaging := .n8 } | 16 => some { i with averaging := .n16 }
    | 32 => some { i with averaging := .n32 } | _ => none := by
  rw [set_field agree (by decide) (operand := readAveraging b) (entry := .averaging) rfl fun _ => rfl, readAveraging]
  split <;> simp_all [Items.apply]

theorem set_retryDelay : (readSetConfig i [byte 0x31, b]).map i.applyAll =
    if 1 ≤ b.toNat then some { i with retryDelay := b } else none := by
  have item : readItem 0x31 b = (if b = 0 then none else some b).map .retryDelay := by
    show (if b = 0 then none else some (ConfigEntry.retryDelay b)) = _
    split <;> rfl
  rw [set_field agree (by decide) item fun _ => rfl]
  by_cases zero : b = 0
  · subst zero; rfl
  · have positive : 1 ≤ b.toNat := by
      rw [Nat.one_le_iff_ne_zero]
      exact fun none => zero (BitVec.eq_of_toNat_eq none)
    rw [if_neg zero, if_pos positive]
    rfl

end

theorem set_warn (i : Items) (b : Byte) : (readSetConfig i [byte 0x39, b]).map i.applyAll =
    if 90 ≤ b.toNat ∧ b.toNat ≤ 140 ∧ b.toNat + 10 ≤ i.shutdown then some { i with warn := b.toNat } else none := by
  rw [set_plain (by decide), show readItem 0x39 b = (readRange 90 140 b).map .warn from rfl, readRange]
  by_cases range : 90 ≤ b.toNat ∧ b.toNat ≤ 140
  · rw [if_pos range]
    refine if_congr ((thresholdsOk_iff _).trans ?_) rfl rfl
    exact ⟨fun ok => ⟨range.1, range.2, ok⟩, fun all => all.2.2⟩
  · rw [if_neg range, if_neg fun all => range ⟨all.1, all.2.1⟩]
    rfl

theorem set_shutdown (i : Items) (b : Byte) : (readSetConfig i [byte 0x3A, b]).map i.applyAll =
    if 110 ≤ b.toNat ∧ b.toNat ≤ 160 ∧ i.warn + 10 ≤ b.toNat then some { i with shutdown := b.toNat } else none := by
  rw [set_plain (by decide), show readItem 0x3A b = (readRange 110 160 b).map .shutdown from rfl, readRange]
  by_cases range : 110 ≤ b.toNat ∧ b.toNat ≤ 160
  · rw [if_pos range]
    refine if_congr ((thresholdsOk_iff _).trans ?_) rfl rfl
    exact ⟨fun ok => ⟨range.1, range.2, ok⟩, fun all => all.2.2⟩
  · rw [if_neg range, if_neg fun all => range ⟨all.1, all.2.1⟩]
    rfl

/-! ## The line items -/

theorem readItem_lineEnabled {l : Nat} (low : 1 ≤ l) (high : l ≤ 8) (b : Byte) :
    readItem (0x3F + l) b = (readBool b).map (.lineEnabled l) := by
  interval_cases l <;> rfl

theorem readItem_lineActive {l : Nat} (low : 1 ≤ l) (high : l ≤ 8) (b : Byte) :
    readItem (0x47 + l) b = (readLineLevel b).map (.lineActive l) := by
  interval_cases l <;> rfl

theorem readItem_lineDebounce {l : Nat} (low : 1 ≤ l) (high : l ≤ 8) (b : Byte) :
    readItem (0x4F + l) b = (readDebounce b).map (.lineDebounce l) := by
  interval_cases l <;> rfl

theorem readBool_eq (b : Byte) : readBool b = if b.toNat ≤ 1 then some (b.toNat == 1) else none := by
  rw [readBool]
  generalize b.toNat = n
  rcases n with _ | _ | n
  · rfl
  · rfl
  · rw [if_neg (by omega)]; rfl

theorem readLineLevel_eq (b : Byte) : readLineLevel b =
    if b.toNat ≤ 1 then some (if b.toNat = 0 then .low else .high) else none := by
  rw [readLineLevel]
  generalize b.toNat = n
  rcases n with _ | _ | n
  · rfl
  · rfl
  · rw [if_neg (by omega)]; rfl

theorem readDebounce_eq (b : Byte) : readDebounce b =
    if b.toNat = 0 ∨ b.toNat = 5 ∨ b.toNat = 20 ∨ b.toNat = 50 then
      some (if b.toNat = 0 then .ms0 else if b.toNat = 5 then .ms5 else if b.toNat = 20 then .ms20 else .ms50)
    else none := by
  rw [readDebounce]
  split <;> simp_all

/-- An item of line `l`, whose value the byte spells when `valid` holds of it. -/
theorem set_line {i : Items} (agree : i.warn + 10 ≤ i.shutdown) {l code : Nat} (low : 1 ≤ l) (high : l ≤ 8)
    (plain : PlainCode code) {b : Byte} {α : Type} {valid : Prop} [Decidable valid] {v : α} {entry : α → ConfigEntry}
    {changed : LineItems → LineItems} (item : readItem code b = (if valid then some v else none).map entry)
    (effect : i.apply (entry v) = { i with lines := put1 i.lines l (changed ((at1 i.lines l).getD LineItems.factory)) })
    (keeps : ∀ v, (i.apply (entry v)).thresholdsOk = i.thresholdsOk) :
    (¬valid → (readSetConfig i [byte code, b]).map i.applyAll = none) ∧
      (valid → ∃ j, (readSetConfig i [byte code, b]).map i.applyAll = some j ∧ j = { i with lines := j.lines } ∧
        ∀ m x, at1 i.lines m = some x → at1 j.lines m = some (if m = l then changed x else x)) := by
  rw [set_field agree plain item keeps]
  refine ⟨fun bad => by rw [if_neg bad]; rfl, fun good => ⟨i.apply (entry v), by rw [if_pos good]; rfl, ?_, fun m x hx => ?_⟩⟩
  · rw [effect]
  · rw [effect]
    show at1 (put1 i.lines l _) m = _
    rw [at1_put1]
    by_cases here : m = l
    · subst here
      rw [if_pos ⟨rfl, low, high⟩, if_pos rfl, hx]
      rfl
    · rw [if_neg fun both => here both.1, if_neg here, hx]

/-! ## The mask and the group list -/

theorem set_mask {i : Items} (agree : i.warn + 10 ≤ i.shutdown) (hi lo : Byte) :
    (readSetConfig i [0x60, hi, lo]).map i.applyAll =
      if hi.msb then none else some { i with attentionMask := hi ++ lo } := by
  have entry : readEntry [0x60, hi, lo] = (readEventSet hi lo).map fun v => (.attentionMask v, []) := rfl
  rw [readEventSet] at entry
  split
  · next bad =>
    rw [if_pos bad] at entry
    rw [readSetConfig_malformed entry]
    rfl
  · next good =>
    rw [if_neg good] at entry
    have ok : (i.apply (.attentionMask (hi ++ lo))).thresholdsOk = true := (thresholdsOk_iff _).mpr agree
    rw [readSetConfig_one entry, if_pos ok]
    rfl

theorem readEntry_groups (bs : List Byte) : readEntry (0x02 :: bs) = readGroups bs := rfl

theorem set_groups {i : Items} (agree : i.warn + 10 ≤ i.shutdown) {gs : List Byte} (short : gs.length ≤ 4) :
    (readSetConfig i (0x02 :: byte gs.length :: gs)).map i.applyAll =
      if (∀ g ∈ gs, 64 ≤ g.toNat ∧ g.toNat ≤ 95) ∧ gs.Nodup then some { i with groups := gs.map BitVec.toNat } else none := by
  have number := toNat_byte (n := gs.length) (by omega)
  have nodup : (gs.map BitVec.toNat).Nodup ↔ gs.Nodup :=
    List.nodup_map_iff fun a b same => BitVec.eq_of_toNat_eq same
  have entry : readEntry (0x02 :: byte gs.length :: gs) =
      if (∀ g ∈ gs, 64 ≤ g.toNat ∧ g.toNat ≤ 95) ∧ gs.Nodup then some (.groups (gs.map BitVec.toNat), []) else none := by
    rw [readEntry_groups, readGroups]
    rw [number, List.take_length, List.drop_length]
    exact if_congr (by simp [short, nodup]) rfl rfl
  split
  · next good =>
    rw [if_pos good] at entry
    have ok : (i.apply (.groups (gs.map BitVec.toNat))).thresholdsOk = true := (thresholdsOk_iff _).mpr agree
    rw [readSetConfig_one entry, if_pos ok]
    rfl
  · next bad =>
    rw [if_neg bad] at entry
    rw [readSetConfig_malformed entry]
    rfl

theorem set_too_many_groups (i : Items) {b : Byte} (many : 4 < b.toNat) (rest : List Byte) :
    readSetConfig i (0x02 :: b :: rest) = none := by
  refine readSetConfig_malformed ?_
  rw [readEntry_groups, readGroups]
  exact if_neg fun all => absurd all.1 (by omega)

/-! ## Codes that name no item -/

theorem readItem_unknown {code : Nat} (unknown : code ∉ [0x01, 0x02, 0x03, 0x10, 0x11, 0x12, 0x20, 0x21, 0x22, 0x23, 0x30, 0x31,
    0x32, 0x33, 0x38, 0x39, 0x3A, 0x3B, 0x3C, 0x60]) (noLine : ¬(0x40 ≤ code ∧ code ≤ 0x57)) (b : Byte) :
    readItem code b = none := by
  have lines : ¬(0x40 ≤ code ∧ code ≤ 0x47) ∧ ¬(0x48 ≤ code ∧ code ≤ 0x4F) ∧ ¬(0x50 ≤ code ∧ code ≤ 0x57) := by omega
  simp only [List.mem_cons, List.not_mem_nil, or_false, not_or] at unknown
  simp only [readItem, unknown, lines, if_false]

theorem set_unknown (i : Items) {code : Nat} (small : code < 256) (unknown : code ∉ [0x01, 0x02, 0x03, 0x10, 0x11, 0x12, 0x20,
    0x21, 0x22, 0x23, 0x30, 0x31, 0x32, 0x33, 0x38, 0x39, 0x3A, 0x3B, 0x3C, 0x60]) (noLine : ¬(0x40 ≤ code ∧ code ≤ 0x57))
    (rest : List Byte) : readSetConfig i (byte code :: rest) = none := by
  have plain : PlainCode code := by
    simp only [List.mem_cons, List.not_mem_nil, or_false, not_or] at unknown
    exact ⟨small, by omega, by omega⟩
  refine readSetConfig_malformed ?_
  cases rest with
  | nil =>
    obtain ⟨-, groups, mask⟩ := plain
    unfold readEntry
    dsimp only
    rw [toNat_byte small, if_neg groups, if_neg mask]
  | cons b more => rw [readEntry_plain plain, readItem_unknown unknown noLine]; rfl

/-! ## Several items -/

theorem readGroups_append {a : List Byte} {r : ConfigEntry × List Byte} (h : readGroups a = some r) (b : List Byte) :
    readGroups (a ++ b) = some (r.1, r.2 ++ b) := by
  cases a with
  | nil => exact nomatch h
  | cons n rest =>
    rw [readGroups] at h
    split_ifs at h with all
    obtain rfl := Option.some.inj h
    have enough : n.toNat ≤ rest.length := by
      have length := all.2.1
      rw [List.length_map, List.length_take] at length
      omega
    rw [List.cons_append, readGroups, List.take_append_of_le_length enough, List.drop_append_of_le_length enough]
    exact if_pos all

theorem readEntry_append {a : List Byte} {r : ConfigEntry × List Byte} (h : readEntry a = some r) (b : List Byte) :
    readEntry (a ++ b) = some (r.1, r.2 ++ b) := by
  cases a with
  | nil => exact nomatch h
  | cons code rest =>
    unfold readEntry at h
    dsimp only at h
    rw [List.cons_append]
    unfold readEntry
    dsimp only
    split_ifs at h ⊢ with groups mask
    · exact readGroups_append h b
    · match rest, h with
      | hi :: lo :: more, h =>
        obtain ⟨v, hv, rfl⟩ := Option.map_eq_some_iff.mp h
        exact Option.map_eq_some_iff.mpr ⟨v, hv, rfl⟩
    · match rest, h with
      | c :: more, h =>
        obtain ⟨e, he, rfl⟩ := Option.map_eq_some_iff.mp h
        exact Option.map_eq_some_iff.mpr ⟨e, he, rfl⟩

theorem readEntriesList_mono : ∀ {f g : Nat} {bs : List Byte} {es : List ConfigEntry}, readEntriesList f bs = some es → f ≤ g →
    readEntriesList g bs = some es
  | f, g, [], es, h, _ => by rw [readEntriesList_nil] at h ⊢; exact h
  | 0, _, _ :: _, _, h, _ => nomatch h
  | f + 1, 0, _ :: _, _, _, le => absurd le (by omega)
  | f + 1, g + 1, c :: bs, es, h, le => by
    rw [readEntriesList_cons] at h ⊢
    split at h
    · exact nomatch h
    · next e rest entry =>
      obtain ⟨tail, ht, rfl⟩ := Option.map_eq_some_iff.mp h
      exact Option.map_eq_some_iff.mpr ⟨tail, readEntriesList_mono ht (by omega), rfl⟩

theorem readEntriesList_append {g : Nat} {b : List Byte} {eb : List ConfigEntry} (hb : readEntriesList g b = some eb) :
    ∀ {f : Nat} {a : List Byte} {ea : List ConfigEntry}, readEntriesList f a = some ea →
      readEntriesList (f + g) (a ++ b) = some (ea ++ eb)
  | f, [], ea, ha => by
    rw [readEntriesList_nil] at ha
    obtain rfl := Option.some.inj ha
    exact readEntriesList_mono hb (by omega)
  | 0, _ :: _, _, ha => nomatch ha
  | f + 1, c :: a, ea, ha => by
    rw [readEntriesList_cons] at ha
    split at ha
    · exact nomatch ha
    · next e rest entry =>
      obtain ⟨tail, ht, rfl⟩ := Option.map_eq_some_iff.mp ha
      have both := readEntry_append entry b
      rw [show f + 1 + g = f + g + 1 by omega, List.cons_append, readEntriesList_cons]
      rw [List.cons_append] at both
      rw [both]
      exact Option.map_eq_some_iff.mpr ⟨_, readEntriesList_append hb ht, rfl⟩

theorem applyAll_append (i : Items) (ea eb : List ConfigEntry) : i.applyAll (ea ++ eb) = (i.applyAll ea).applyAll eb :=
  List.foldl_append ..

theorem readSetConfig_append {i j k : Items} {a b : List Byte} {ea eb : List ConfigEntry} (ha : readSetConfig j a = some ea)
    (hb : readSetConfig k b = some eb) : readSetConfig i (a ++ b) =
      if ((ea ++ eb).map ConfigEntry.code).Nodup ∧
          ((i.applyAll ea).applyAll eb).warn + 10 ≤ ((i.applyAll ea).applyAll eb).shutdown then some (ea ++ eb)
      else none := by
  obtain ⟨la, ne, -, -⟩ := readSetConfig_spec ha
  obtain ⟨lb, -, -, -⟩ := readSetConfig_spec hb
  have list := readEntriesList_append lb la
  unfold readSetConfig
  rw [List.length_append, list]
  refine if_congr ?_ rfl rfl
  rw [thresholdsOk_iff, applyAll_append]
  exact ⟨fun all => all.2, fun both => ⟨fun none => ne (List.append_eq_nil_iff.mp none).1, both⟩⟩

end Sys2Proof.Machine
end

section
/-! The codes and records of chapter 09, as a whole. -/

namespace Sys2Proof.Machine

theorem patternRecord_bytes (r : PatternRecord) : r.bytes =
    [if r.enabled then 1 else 0] ++ [byte r.elements.length] ++
      (r.elements.map fun e => [byte e.line, e.kind.code]).flatten ++ [byte r.window] ++ [r.action.code] ++ [byte r.cue] := by
  simp [PatternRecord.bytes, byteOfBool, List.flatMap_def]

theorem cueRecord_bytes (r : CueRecord) : r.bytes =
    [byte r.label.length] ++ r.label ++ [byte r.priority] ++ [r.curve.code] ++ [r.startStep, r.stopStep] ++ [r.stepPeriod] ++
      [r.delay.count, byte r.delay.unit.val] ++ [r.hold.count, byte r.hold.unit.val] ++
      [r.endAction.code, byte r.endAction.parameter] ++ [r.policy.code] ++ [r.releaseFade] ++ [byte r.channels.length] ++
      (r.channels.map fun e => [byte e.channel, e.scale]).flatten ++ [r.trim] := by
  simp [CueRecord.bytes, List.flatMap_def]

/-- A valid record behind a slot and flags 3, 2, 1 and 0 (09 R174). -/
theorem readWriteCue_bytes {n : Nat} {r : CueRecord} (rev : Byte) (low : 1 ≤ n) (high : n ≤ 64) (valid : r.Valid) :
    readWriteCue (byte n :: 3 :: rev :: r.bytes) = some ⟨n, some rev, r⟩ ∧
      readWriteCue (byte n :: 2 :: r.bytes) = some ⟨n, none, r⟩ ∧
      readWriteCue (byte n :: 1 :: rev :: r.bytes.dropLast) = some ⟨n, some rev, { r with trim := 255 }⟩ ∧
      readWriteCue (byte n :: 0 :: r.bytes.dropLast) = some ⟨n, none, { r with trim := 255 }⟩ := by
  have trimmed : readRecord true r.bytes = some r := by
    rw [bytes_eq_body]
    exact readRecord_bytes valid (trim := r.trim) rfl
  have bare : readRecord false r.bytes.dropLast = some { r with trim := 255 } := by
    rw [bytes_dropLast, ← List.append_nil (_ :: _)]
    exact readRecord_bytes valid (trim := 255) rfl
  rw [readWriteCue_3 low high, readWriteCue_2 low high, readWriteCue_1 low high, readWriteCue_0 low high, trimmed, bare]
  exact ⟨rfl, rfl, rfl, rfl⟩

/-- Settles O11: code by code, record by record, item by item. -/
theorem recordsReadBackAsTheyAreReported : Obligations.RecordsReadBackAsTheyAreReported := by
  refine ⟨?codes, cueRecord_bytes, patternRecord_bytes, fun payload w => readWriteCue_sound,
    fun payload w => readWritePattern_sound, fun n rev r low high valid => readWriteCue_bytes rev low high valid,
    fun k r low high valid => readWritePattern_bytes low high valid, fun i b agree => ?items,
    fun i j k a b ea eb ha hb => ⟨applyAll_append i ea eb, readSetConfig_append ha hb⟩⟩
  case codes =>
    refine ⟨rfl, rfl, rfl, fun n => rfl, rfl, fun origins k => rfl, fun k => rfl, fun n => rfl, rfl, rfl, rfl, fun m => rfl, rfl,
      rfl, rfl, rfl, rfl, rfl, rfl, rfl, rfl, rfl, rfl, rfl⟩
  case items =>
    have zero (hi : Nat) : (0 ≤ b.toNat ∧ b.toNat ≤ hi) ↔ b.toNat ≤ hi := ⟨And.right, fun h => ⟨Nat.zero_le _, h⟩⟩
    have below : (64 ≤ b.toNat ∧ b.toNat ≤ 255) ↔ 64 ≤ b.toNat :=
      ⟨And.left, fun h => ⟨h, Nat.le_of_lt_succ b.isLt⟩⟩
    have number {code lo hi : Nat} (plain : PlainCode code) (entry : Nat → ConfigEntry)
        (item : readItem code b = (readRange lo hi b).map entry)
        (keeps : ∀ v, (i.apply (entry v)).thresholdsOk = i.thresholdsOk) := set_number agree plain item keeps
    refine ⟨number (by decide) .unitAddress rfl fun _ => rfl, set_baud agree b,
      set_field agree (by decide) (operand := some b) (entry := .watchdogPeriod) rfl fun _ => rfl, set_watchdogUnit agree b,
      (number (by decide) .fallbackCue rfl fun _ => rfl).trans (if_congr (zero 64) rfl rfl), set_startPolicy agree b,
      (number (by decide) .startCue rfl fun _ => rfl).trans (if_congr (zero 64) rfl rfl),
      (number (by decide) .settleDelay rfl fun _ => rfl).trans (if_congr (zero 20) rfl rfl), set_serviceMode agree b,
      (number (by decide) .maxRetries rfl fun _ => rfl).trans (if_congr (zero 7) rfl rfl), set_retryDelay agree b,
      set_field agree (by decide) (operand := some b) (entry := .goodRunTime) rfl fun _ => rfl, set_deglitch agree b,
      set_averaging agree b, set_warn i b, set_shutdown i b, number (by decide) .hysteresis rfl fun _ => rfl,
      (number (by decide) .derate rfl fun _ => rfl).trans (if_congr below rfl rfl), fun l low high => ?line,
      fun lo => set_mask agree b lo, fun gs short => set_groups agree short, fun many rest => set_too_many_groups i many rest,
      fun code small unknown noLine rest => set_unknown i small unknown noLine rest⟩
    case line =>
      refine ⟨set_line agree low high ⟨by omega, by omega, by omega⟩
          ((readItem_lineEnabled low high b).trans (congrArg _ (readBool_eq b))) rfl fun _ => rfl,
        set_line agree low high ⟨by omega, by omega, by omega⟩
          ((readItem_lineActive low high b).trans (congrArg _ (readLineLevel_eq b))) rfl fun _ => rfl,
        set_line agree low high ⟨by omega, by omega, by omega⟩
          ((readItem_lineDebounce low high b).trans (congrArg _ (readDebounce_eq b))) rfl fun _ => rfl⟩

end Sys2Proof.Machine
end
